-- ==== Sys2Proof/Word.lean ====
section
/-! DEFINITION. The word types of the SPARC model (spec/00_scope.md R7 to R9). -/

namespace Sys2Proof

/-- 8 bits. -/
abbrev Byte := BitVec 8

/-- 32 bits: r and f registers, PC, nPC, addresses, instruction words (R1). -/
abbrev Word := BitVec 32

/-- 64 bits: a doubleword operand, a product, a dividend. -/
abbrev DWord := BitVec 64

/-- A 5-bit r, f, coprocessor or ancillary state register number (R145). -/
abbrev Reg := BitVec 5

/-- An 8-bit address space identifier (R100). -/
abbrev Asi := BitVec 8

end Sys2Proof
end

