-- ==== Sys2Proof/Syntax.lean ====
section
/-! DEFINITION. The abstract syntax: one constructor of `Instr` per row of spec/opcode_table.json (30_encoding.md R158). -/

namespace Sys2Proof

/-- The second operand of a Format 3 instruction (R147): r[rs2] when i = 0, the signed 13-bit immediate when i = 1. -/
inductive RegOrImm
  | reg (rs2 : Reg)
  | imm (simm13 : BitVec 13)
  deriving DecidableEq, Repr

/-- The count of a shift (R320): r[rs2] when i = 0, shcnt when i = 1. -/
inductive ShiftOperand
  | reg (rs2 : Reg)
  | cnt (shcnt : BitVec 5)
  deriving DecidableEq, Repr

/-- The second operand of Ticc (R473): r[rs2] when i = 0, imm7 when i = 1. -/
inductive TrapOperand
  | reg (rs2 : Reg)
  | imm (imm7 : BitVec 7)
  deriving DecidableEq, Repr

/-- One constructor per row of the opcode table. Register numbers keep the fields' names; a reserved or unused field is no
operand (R161). The alternate-space forms keep i, which must be 0 or the instruction traps (R102), and what follows it. -/
inductive Instr
  -- Load integer, 40_load_store R203 to R210, R245 to R250
  | ldsb (rd rs1 : Reg) (o : RegOrImm)
  | ldsh (rd rs1 : Reg) (o : RegOrImm)
  | ldub (rd rs1 : Reg) (o : RegOrImm)
  | lduh (rd rs1 : Reg) (o : RegOrImm)
  | ld (rd rs1 : Reg) (o : RegOrImm)
  | ldd (rd rs1 : Reg) (o : RegOrImm)
  | ldsba (rd rs1 : Reg) (i : Bool) (asi : Asi) (rs2 : Reg)
  | ldsha (rd rs1 : Reg) (i : Bool) (asi : Asi) (rs2 : Reg)
  | lduba (rd rs1 : Reg) (i : Bool) (asi : Asi) (rs2 : Reg)
  | lduha (rd rs1 : Reg) (i : Bool) (asi : Asi) (rs2 : Reg)
  | lda (rd rs1 : Reg) (i : Bool) (asi : Asi) (rs2 : Reg)
  | ldda (rd rs1 : Reg) (i : Bool) (asi : Asi) (rs2 : Reg)
  -- Load floating-point and coprocessor, R211 to R218
  | ldf (rd rs1 : Reg) (o : RegOrImm)
  | lddf (rd rs1 : Reg) (o : RegOrImm)
  | ldfsr (rd rs1 : Reg) (o : RegOrImm)
  | ldc (rd rs1 : Reg) (o : RegOrImm)
  | lddc (rd rs1 : Reg) (o : RegOrImm)
  | ldcsr (rd rs1 : Reg) (o : RegOrImm)
  -- Store integer, R219 to R227, R251 to R254
  | stb (rd rs1 : Reg) (o : RegOrImm)
  | sth (rd rs1 : Reg) (o : RegOrImm)
  | st (rd rs1 : Reg) (o : RegOrImm)
  | std (rd rs1 : Reg) (o : RegOrImm)
  | stba (rd rs1 : Reg) (i : Bool) (asi : Asi) (rs2 : Reg)
  | stha (rd rs1 : Reg) (i : Bool) (asi : Asi) (rs2 : Reg)
  | sta (rd rs1 : Reg) (i : Bool) (asi : Asi) (rs2 : Reg)
  | stda (rd rs1 : Reg) (i : Bool) (asi : Asi) (rs2 : Reg)
  -- Store floating-point and coprocessor, R220, R224, R230 to R237
  | stf (rd rs1 : Reg) (o : RegOrImm)
  | stdf (rd rs1 : Reg) (o : RegOrImm)
  | stfsr (rd rs1 : Reg) (o : RegOrImm)
  | stdfq (rd rs1 : Reg) (o : RegOrImm)
  | stc (rd rs1 : Reg) (o : RegOrImm)
  | stdc (rd rs1 : Reg) (o : RegOrImm)
  | stcsr (rd rs1 : Reg) (o : RegOrImm)
  | stdcq (rd rs1 : Reg) (o : RegOrImm)
  -- Atomic load-store, R240 to R243
  | ldstub (rd rs1 : Reg) (o : RegOrImm)
  | ldstuba (rd rs1 : Reg) (i : Bool) (asi : Asi) (rs2 : Reg)
  | swap (rd rs1 : Reg) (o : RegOrImm)
  | swapa (rd rs1 : Reg) (i : Bool) (asi : Asi) (rs2 : Reg)
  -- NOP and SETHI, 41_sethi_logical_shift R300, R301
  | nop
  | sethi (rd : Reg) (imm22 : BitVec 22)
  -- Logical, R302 to R315
  | and (rd rs1 : Reg) (o : RegOrImm)
  | andcc (rd rs1 : Reg) (o : RegOrImm)
  | andn (rd rs1 : Reg) (o : RegOrImm)
  | andncc (rd rs1 : Reg) (o : RegOrImm)
  | or (rd rs1 : Reg) (o : RegOrImm)
  | orcc (rd rs1 : Reg) (o : RegOrImm)
  | orn (rd rs1 : Reg) (o : RegOrImm)
  | orncc (rd rs1 : Reg) (o : RegOrImm)
  | xor (rd rs1 : Reg) (o : RegOrImm)
  | xorcc (rd rs1 : Reg) (o : RegOrImm)
  | xnor (rd rs1 : Reg) (o : RegOrImm)
  | xnorcc (rd rs1 : Reg) (o : RegOrImm)
  -- Shift, R316 to R323
  | sll (rd rs1 : Reg) (o : ShiftOperand)
  | srl (rd rs1 : Reg) (o : ShiftOperand)
  | sra (rd rs1 : Reg) (o : ShiftOperand)
  -- Arithmetic, 42_arithmetic R340 to R371
  | add (rd rs1 : Reg) (o : RegOrImm)
  | addcc (rd rs1 : Reg) (o : RegOrImm)
  | addx (rd rs1 : Reg) (o : RegOrImm)
  | addxcc (rd rs1 : Reg) (o : RegOrImm)
  | taddcc (rd rs1 : Reg) (o : RegOrImm)
  | taddcctv (rd rs1 : Reg) (o : RegOrImm)
  | sub (rd rs1 : Reg) (o : RegOrImm)
  | subcc (rd rs1 : Reg) (o : RegOrImm)
  | subx (rd rs1 : Reg) (o : RegOrImm)
  | subxcc (rd rs1 : Reg) (o : RegOrImm)
  | tsubcc (rd rs1 : Reg) (o : RegOrImm)
  | tsubcctv (rd rs1 : Reg) (o : RegOrImm)
  | mulscc (rd rs1 : Reg) (o : RegOrImm)
  | umul (rd rs1 : Reg) (o : RegOrImm)
  | smul (rd rs1 : Reg) (o : RegOrImm)
  | umulcc (rd rs1 : Reg) (o : RegOrImm)
  | smulcc (rd rs1 : Reg) (o : RegOrImm)
  | udiv (rd rs1 : Reg) (o : RegOrImm)
  | sdiv (rd rs1 : Reg) (o : RegOrImm)
  | udivcc (rd rs1 : Reg) (o : RegOrImm)
  | sdivcc (rd rs1 : Reg) (o : RegOrImm)
  -- Windows, 43_window_control_transfer R400 to R402
  | save (rd rs1 : Reg) (o : RegOrImm)
  | restore (rd rs1 : Reg) (o : RegOrImm)
  -- Bicc, R410 to R426
  | ba (a : Bool) (disp22 : BitVec 22)
  | bn (a : Bool) (disp22 : BitVec 22)
  | bne (a : Bool) (disp22 : BitVec 22)
  | be (a : Bool) (disp22 : BitVec 22)
  | bg (a : Bool) (disp22 : BitVec 22)
  | ble (a : Bool) (disp22 : BitVec 22)
  | bge (a : Bool) (disp22 : BitVec 22)
  | bl (a : Bool) (disp22 : BitVec 22)
  | bgu (a : Bool) (disp22 : BitVec 22)
  | bleu (a : Bool) (disp22 : BitVec 22)
  | bcc (a : Bool) (disp22 : BitVec 22)
  | bcs (a : Bool) (disp22 : BitVec 22)
  | bpos (a : Bool) (disp22 : BitVec 22)
  | bneg (a : Bool) (disp22 : BitVec 22)
  | bvc (a : Bool) (disp22 : BitVec 22)
  | bvs (a : Bool) (disp22 : BitVec 22)
  -- FBfcc, R430 to R446
  | fba (a : Bool) (disp22 : BitVec 22)
  | fbn (a : Bool) (disp22 : BitVec 22)
  | fbu (a : Bool) (disp22 : BitVec 22)
  | fbg (a : Bool) (disp22 : BitVec 22)
  | fbug (a : Bool) (disp22 : BitVec 22)
  | fbl (a : Bool) (disp22 : BitVec 22)
  | fbul (a : Bool) (disp22 : BitVec 22)
  | fblg (a : Bool) (disp22 : BitVec 22)
  | fbne (a : Bool) (disp22 : BitVec 22)
  | fbe (a : Bool) (disp22 : BitVec 22)
  | fbue (a : Bool) (disp22 : BitVec 22)
  | fbge (a : Bool) (disp22 : BitVec 22)
  | fbuge (a : Bool) (disp22 : BitVec 22)
  | fble (a : Bool) (disp22 : BitVec 22)
  | fbule (a : Bool) (disp22 : BitVec 22)
  | fbo (a : Bool) (disp22 : BitVec 22)
  -- CBccc, R450 to R466
  | cba (a : Bool) (disp22 : BitVec 22)
  | cbn (a : Bool) (disp22 : BitVec 22)
  | cb3 (a : Bool) (disp22 : BitVec 22)
  | cb2 (a : Bool) (disp22 : BitVec 22)
  | cb23 (a : Bool) (disp22 : BitVec 22)
  | cb1 (a : Bool) (disp22 : BitVec 22)
  | cb13 (a : Bool) (disp22 : BitVec 22)
  | cb12 (a : Bool) (disp22 : BitVec 22)
  | cb123 (a : Bool) (disp22 : BitVec 22)
  | cb0 (a : Bool) (disp22 : BitVec 22)
  | cb03 (a : Bool) (disp22 : BitVec 22)
  | cb02 (a : Bool) (disp22 : BitVec 22)
  | cb023 (a : Bool) (disp22 : BitVec 22)
  | cb01 (a : Bool) (disp22 : BitVec 22)
  | cb013 (a : Bool) (disp22 : BitVec 22)
  | cb012 (a : Bool) (disp22 : BitVec 22)
  -- CALL, JMPL, RETT, R470 to R472
  | call (disp30 : BitVec 30)
  | jmpl (rd rs1 : Reg) (o : RegOrImm)
  | rett (rs1 : Reg) (o : RegOrImm)
  -- Ticc, R473 to R489
  | ta (rs1 : Reg) (o : TrapOperand)
  | tn (rs1 : Reg) (o : TrapOperand)
  | tne (rs1 : Reg) (o : TrapOperand)
  | te (rs1 : Reg) (o : TrapOperand)
  | tg (rs1 : Reg) (o : TrapOperand)
  | tle (rs1 : Reg) (o : TrapOperand)
  | tge (rs1 : Reg) (o : TrapOperand)
  | tl (rs1 : Reg) (o : TrapOperand)
  | tgu (rs1 : Reg) (o : TrapOperand)
  | tleu (rs1 : Reg) (o : TrapOperand)
  | tcc (rs1 : Reg) (o : TrapOperand)
  | tcs (rs1 : Reg) (o : TrapOperand)
  | tpos (rs1 : Reg) (o : TrapOperand)
  | tneg (rs1 : Reg) (o : TrapOperand)
  | tvc (rs1 : Reg) (o : TrapOperand)
  | tvs (rs1 : Reg) (o : TrapOperand)
  -- State registers, STBAR, UNIMP, FLUSH, 44_state_register_misc R500 to R522
  | rdy (rd : Reg)
  | stbar
  | rdasr (rd rs1 : Reg)
  | rdpsr (rd : Reg)
  | rdwim (rd : Reg)
  | rdtbr (rd : Reg)
  | wry (rs1 : Reg) (o : RegOrImm)
  | wrasr (rd rs1 : Reg) (o : RegOrImm)
  | wrpsr (rs1 : Reg) (o : RegOrImm)
  | wrwim (rs1 : Reg) (o : RegOrImm)
  | wrtbr (rs1 : Reg) (o : RegOrImm)
  | unimp (const22 : BitVec 22)
  | flush (rs1 : Reg) (o : RegOrImm)
  -- FPops, 45_fpop_cpop R540 to R589, R593, R594
  | fitos (rd rs2 : Reg)
  | fitod (rd rs2 : Reg)
  | fitoq (rd rs2 : Reg)
  | fstoi (rd rs2 : Reg)
  | fdtoi (rd rs2 : Reg)
  | fqtoi (rd rs2 : Reg)
  | fstod (rd rs2 : Reg)
  | fstoq (rd rs2 : Reg)
  | fdtos (rd rs2 : Reg)
  | fdtoq (rd rs2 : Reg)
  | fqtos (rd rs2 : Reg)
  | fqtod (rd rs2 : Reg)
  | fmovs (rd rs2 : Reg)
  | fnegs (rd rs2 : Reg)
  | fabss (rd rs2 : Reg)
  | fsqrts (rd rs2 : Reg)
  | fsqrtd (rd rs2 : Reg)
  | fsqrtq (rd rs2 : Reg)
  | fadds (rd rs1 rs2 : Reg)
  | faddd (rd rs1 rs2 : Reg)
  | faddq (rd rs1 rs2 : Reg)
  | fsubs (rd rs1 rs2 : Reg)
  | fsubd (rd rs1 rs2 : Reg)
  | fsubq (rd rs1 rs2 : Reg)
  | fmuls (rd rs1 rs2 : Reg)
  | fmuld (rd rs1 rs2 : Reg)
  | fmulq (rd rs1 rs2 : Reg)
  | fsmuld (rd rs1 rs2 : Reg)
  | fdmulq (rd rs1 rs2 : Reg)
  | fdivs (rd rs1 rs2 : Reg)
  | fdivd (rd rs1 rs2 : Reg)
  | fdivq (rd rs1 rs2 : Reg)
  | fcmps (rs1 rs2 : Reg)
  | fcmpd (rs1 rs2 : Reg)
  | fcmpq (rs1 rs2 : Reg)
  | fcmpes (rs1 rs2 : Reg)
  | fcmped (rs1 rs2 : Reg)
  | fcmpeq (rs1 rs2 : Reg)
  -- CPops, R590 to R592
  | cpop1 (rd rs1 : Reg) (opc : BitVec 9) (rs2 : Reg)
  | cpop2 (rd rs1 : Reg) (opc : BitVec 9) (rs2 : Reg)
  deriving DecidableEq, Repr

/-- Why a word is no instruction of the table (R160). -/
inductive Reject
  /-- op = 00 with the op2 field 001, 011 or 101 -/
  | unassignedOp2
  /-- op = 10 with an unassigned op3 -/
  | unassignedArith
  /-- op = 11 with an unassigned op3 -/
  | unassignedMem
  /-- FPop1 with an opf of no row -/
  | unassignedFpop1
  /-- FPop2 with an opf of no row -/
  | unassignedFpop2
  deriving DecidableEq, Repr

end Sys2Proof
end

