-- ==== Sys2Proof/WellFormed.lean ====
section
/-! DEFINITION. Which terms of `Instr` stand for a word of their own row: the rows that 30_encoding.md R157, R158 separate by a
field's value (NOP and SETHI, RDY, STBAR and RDASR, WRY and WRASR). Every other combination of operands is an instruction. -/

namespace Sys2Proof

/-- `i` is an instruction that some word of its own row encodes (R157, R158). -/
def Instr.wf : Instr → Bool
  | .sethi rd imm22 => !(rd == 0 && imm22 == 0)
  | .rdasr rd rs1 => rs1 != 0 && !(rs1 == 15 && rd == 0)
  | .wrasr rd _ _ => rd != 0
  | .ldsb _ _ _ => true
  | .ldsh _ _ _ => true
  | .ldub _ _ _ => true
  | .lduh _ _ _ => true
  | .ld _ _ _ => true
  | .ldd _ _ _ => true
  | .ldsba _ _ _ _ _ => true
  | .ldsha _ _ _ _ _ => true
  | .lduba _ _ _ _ _ => true
  | .lduha _ _ _ _ _ => true
  | .lda _ _ _ _ _ => true
  | .ldda _ _ _ _ _ => true
  | .ldf _ _ _ => true
  | .lddf _ _ _ => true
  | .ldfsr _ _ _ => true
  | .ldc _ _ _ => true
  | .lddc _ _ _ => true
  | .ldcsr _ _ _ => true
  | .stb _ _ _ => true
  | .sth _ _ _ => true
  | .st _ _ _ => true
  | .std _ _ _ => true
  | .stba _ _ _ _ _ => true
  | .stha _ _ _ _ _ => true
  | .sta _ _ _ _ _ => true
  | .stda _ _ _ _ _ => true
  | .stf _ _ _ => true
  | .stdf _ _ _ => true
  | .stfsr _ _ _ => true
  | .stdfq _ _ _ => true
  | .stc _ _ _ => true
  | .stdc _ _ _ => true
  | .stcsr _ _ _ => true
  | .stdcq _ _ _ => true
  | .ldstub _ _ _ => true
  | .ldstuba _ _ _ _ _ => true
  | .swap _ _ _ => true
  | .swapa _ _ _ _ _ => true
  | .nop => true
  | .and _ _ _ => true
  | .andcc _ _ _ => true
  | .andn _ _ _ => true
  | .andncc _ _ _ => true
  | .or _ _ _ => true
  | .orcc _ _ _ => true
  | .orn _ _ _ => true
  | .orncc _ _ _ => true
  | .xor _ _ _ => true
  | .xorcc _ _ _ => true
  | .xnor _ _ _ => true
  | .xnorcc _ _ _ => true
  | .sll _ _ _ => true
  | .srl _ _ _ => true
  | .sra _ _ _ => true
  | .add _ _ _ => true
  | .addcc _ _ _ => true
  | .addx _ _ _ => true
  | .addxcc _ _ _ => true
  | .taddcc _ _ _ => true
  | .taddcctv _ _ _ => true
  | .sub _ _ _ => true
  | .subcc _ _ _ => true
  | .subx _ _ _ => true
  | .subxcc _ _ _ => true
  | .tsubcc _ _ _ => true
  | .tsubcctv _ _ _ => true
  | .mulscc _ _ _ => true
  | .umul _ _ _ => true
  | .smul _ _ _ => true
  | .umulcc _ _ _ => true
  | .smulcc _ _ _ => true
  | .udiv _ _ _ => true
  | .sdiv _ _ _ => true
  | .udivcc _ _ _ => true
  | .sdivcc _ _ _ => true
  | .save _ _ _ => true
  | .restore _ _ _ => true
  | .ba _ _ => true
  | .bn _ _ => true
  | .bne _ _ => true
  | .be _ _ => true
  | .bg _ _ => true
  | .ble _ _ => true
  | .bge _ _ => true
  | .bl _ _ => true
  | .bgu _ _ => true
  | .bleu _ _ => true
  | .bcc _ _ => true
  | .bcs _ _ => true
  | .bpos _ _ => true
  | .bneg _ _ => true
  | .bvc _ _ => true
  | .bvs _ _ => true
  | .fba _ _ => true
  | .fbn _ _ => true
  | .fbu _ _ => true
  | .fbg _ _ => true
  | .fbug _ _ => true
  | .fbl _ _ => true
  | .fbul _ _ => true
  | .fblg _ _ => true
  | .fbne _ _ => true
  | .fbe _ _ => true
  | .fbue _ _ => true
  | .fbge _ _ => true
  | .fbuge _ _ => true
  | .fble _ _ => true
  | .fbule _ _ => true
  | .fbo _ _ => true
  | .cba _ _ => true
  | .cbn _ _ => true
  | .cb3 _ _ => true
  | .cb2 _ _ => true
  | .cb23 _ _ => true
  | .cb1 _ _ => true
  | .cb13 _ _ => true
  | .cb12 _ _ => true
  | .cb123 _ _ => true
  | .cb0 _ _ => true
  | .cb03 _ _ => true
  | .cb02 _ _ => true
  | .cb023 _ _ => true
  | .cb01 _ _ => true
  | .cb013 _ _ => true
  | .cb012 _ _ => true
  | .call _ => true
  | .jmpl _ _ _ => true
  | .rett _ _ => true
  | .ta _ _ => true
  | .tn _ _ => true
  | .tne _ _ => true
  | .te _ _ => true
  | .tg _ _ => true
  | .tle _ _ => true
  | .tge _ _ => true
  | .tl _ _ => true
  | .tgu _ _ => true
  | .tleu _ _ => true
  | .tcc _ _ => true
  | .tcs _ _ => true
  | .tpos _ _ => true
  | .tneg _ _ => true
  | .tvc _ _ => true
  | .tvs _ _ => true
  | .rdy _ => true
  | .stbar => true
  | .rdpsr _ => true
  | .rdwim _ => true
  | .rdtbr _ => true
  | .wry _ _ => true
  | .wrpsr _ _ => true
  | .wrwim _ _ => true
  | .wrtbr _ _ => true
  | .unimp _ => true
  | .flush _ _ => true
  | .fitos _ _ => true
  | .fitod _ _ => true
  | .fitoq _ _ => true
  | .fstoi _ _ => true
  | .fdtoi _ _ => true
  | .fqtoi _ _ => true
  | .fstod _ _ => true
  | .fstoq _ _ => true
  | .fdtos _ _ => true
  | .fdtoq _ _ => true
  | .fqtos _ _ => true
  | .fqtod _ _ => true
  | .fmovs _ _ => true
  | .fnegs _ _ => true
  | .fabss _ _ => true
  | .fsqrts _ _ => true
  | .fsqrtd _ _ => true
  | .fsqrtq _ _ => true
  | .fadds _ _ _ => true
  | .faddd _ _ _ => true
  | .faddq _ _ _ => true
  | .fsubs _ _ _ => true
  | .fsubd _ _ _ => true
  | .fsubq _ _ _ => true
  | .fmuls _ _ _ => true
  | .fmuld _ _ _ => true
  | .fmulq _ _ _ => true
  | .fsmuld _ _ _ => true
  | .fdmulq _ _ _ => true
  | .fdivs _ _ _ => true
  | .fdivd _ _ _ => true
  | .fdivq _ _ _ => true
  | .fcmps _ _ => true
  | .fcmpd _ _ => true
  | .fcmpq _ _ => true
  | .fcmpes _ _ => true
  | .fcmped _ _ => true
  | .fcmpeq _ _ => true
  | .cpop1 _ _ _ _ => true
  | .cpop2 _ _ _ _ => true

end Sys2Proof
end

