-- ==== Sys2Proof/Decode.lean ====
section
/-! DEFINITION. Decoding a 32-bit word by the tables of spec/30_encoding.md R150 to R157, total, rejecting by name; then the
encoder, written from the same tables, with zero in every unused field. -/

namespace Sys2Proof

/-! ### Fields of a word (R145) -/

/-- op, bits 31:30. -/
def opField (w : Word) : BitVec 2 := w.extractLsb' 30 2
/-- rd, bits 29:25; in a branch and a Ticc, bit 29 and cond. -/
def rdField (w : Word) : Reg := w.extractLsb' 25 5
/-- op3, bits 24:19. -/
def op3Field (w : Word) : BitVec 6 := w.extractLsb' 19 6
/-- rs1, bits 18:14. -/
def rs1Field (w : Word) : Reg := w.extractLsb' 14 5
/-- bits 13:0: i and the second operand, or opf and rs2. -/
def lowField (w : Word) : BitVec 14 := w.extractLsb' 0 14
/-- op2, bits 24:22. -/
def op2Field (w : Word) : BitVec 3 := w.extractLsb' 22 3
/-- imm22, const22 or disp22, bits 21:0. -/
def imm22Field (w : Word) : BitVec 22 := w.extractLsb' 0 22
/-- disp30, bits 29:0. -/
def disp30Field (w : Word) : BitVec 30 := w.extractLsb' 0 30
/-- a, bit 29, out of bits 29:25. -/
def annulBit (rd : Reg) : Bool := rd.getLsbD 4
/-- cond, bits 28:25, out of bits 29:25. -/
def condField (rd : Reg) : BitVec 4 := rd.extractLsb' 0 4
/-- i, bit 13. -/
def iBit (low : BitVec 14) : Bool := low.getLsbD 13
/-- asi, bits 12:5. -/
def asiField (low : BitVec 14) : Asi := low.extractLsb' 5 8
/-- rs2, bits 4:0. -/
def rs2Field (low : BitVec 14) : Reg := low.extractLsb' 0 5
/-- simm13, bits 12:0. -/
def simm13Field (low : BitVec 14) : BitVec 13 := low.extractLsb' 0 13
/-- imm7, bits 6:0. -/
def imm7Field (low : BitVec 14) : BitVec 7 := low.extractLsb' 0 7
/-- opf or opc, bits 13:5. -/
def opfField (low : BitVec 14) : BitVec 9 := low.extractLsb' 5 9

/-- The second operand of R147. -/
def regOrImm (low : BitVec 14) : RegOrImm :=
  if iBit low then .imm (simm13Field low) else .reg (rs2Field low)
/-- The shift operand of R320: shcnt is the low five bits of the immediate. -/
def shiftOperand (low : BitVec 14) : ShiftOperand :=
  if iBit low then .cnt (rs2Field low) else .reg (rs2Field low)
/-- The trap number operand of R473. -/
def trapOperand (low : BitVec 14) : TrapOperand :=
  if iBit low then .imm (imm7Field low) else .reg (rs2Field low)

/-! ### The decode tables -/

/-- The Bicc column of R154. -/
def decodeBicc (cond : BitVec 4) (a : Bool) (disp22 : BitVec 22) : Instr :=
  match cond.toNat with
  | 0 => .bn a disp22
  | 1 => .be a disp22
  | 2 => .ble a disp22
  | 3 => .bl a disp22
  | 4 => .bleu a disp22
  | 5 => .bcs a disp22
  | 6 => .bneg a disp22
  | 7 => .bvs a disp22
  | 8 => .ba a disp22
  | 9 => .bne a disp22
  | 10 => .bg a disp22
  | 11 => .bge a disp22
  | 12 => .bgu a disp22
  | 13 => .bcc a disp22
  | 14 => .bpos a disp22
  | _ => .bvc a disp22

/-- The FBfcc column of R154. -/
def decodeFBfcc (cond : BitVec 4) (a : Bool) (disp22 : BitVec 22) : Instr :=
  match cond.toNat with
  | 0 => .fbn a disp22
  | 1 => .fbne a disp22
  | 2 => .fblg a disp22
  | 3 => .fbul a disp22
  | 4 => .fbl a disp22
  | 5 => .fbug a disp22
  | 6 => .fbg a disp22
  | 7 => .fbu a disp22
  | 8 => .fba a disp22
  | 9 => .fbe a disp22
  | 10 => .fbue a disp22
  | 11 => .fbge a disp22
  | 12 => .fbuge a disp22
  | 13 => .fble a disp22
  | 14 => .fbule a disp22
  | _ => .fbo a disp22

/-- The CBccc column of R154. -/
def decodeCBccc (cond : BitVec 4) (a : Bool) (disp22 : BitVec 22) : Instr :=
  match cond.toNat with
  | 0 => .cbn a disp22
  | 1 => .cb123 a disp22
  | 2 => .cb12 a disp22
  | 3 => .cb13 a disp22
  | 4 => .cb1 a disp22
  | 5 => .cb23 a disp22
  | 6 => .cb2 a disp22
  | 7 => .cb3 a disp22
  | 8 => .cba a disp22
  | 9 => .cb0 a disp22
  | 10 => .cb03 a disp22
  | 11 => .cb02 a disp22
  | 12 => .cb023 a disp22
  | 13 => .cb01 a disp22
  | 14 => .cb013 a disp22
  | _ => .cb012 a disp22

/-- The Ticc column of R154. -/
def decodeTicc (cond : BitVec 4) (rs1 : Reg) (o : TrapOperand) : Instr :=
  match cond.toNat with
  | 0 => .tn rs1 o
  | 1 => .te rs1 o
  | 2 => .tle rs1 o
  | 3 => .tl rs1 o
  | 4 => .tleu rs1 o
  | 5 => .tcs rs1 o
  | 6 => .tneg rs1 o
  | 7 => .tvs rs1 o
  | 8 => .ta rs1 o
  | 9 => .tne rs1 o
  | 10 => .tg rs1 o
  | 11 => .tge rs1 o
  | 12 => .tgu rs1 o
  | 13 => .tcc rs1 o
  | 14 => .tpos rs1 o
  | _ => .tvc rs1 o

/-- op = 00 (R150). -/
def decodeFormat2 (rd : Reg) (op2 : BitVec 3) (imm22 : BitVec 22) : Except Reject Instr :=
  match op2.toNat with
  | 0 => .ok (.unimp imm22)
  | 2 => .ok (decodeBicc (condField rd) (annulBit rd) imm22)
  | 4 => .ok (if rd = 0 ∧ imm22 = 0 then .nop else .sethi rd imm22)
  | 6 => .ok (decodeFBfcc (condField rd) (annulBit rd) imm22)
  | 7 => .ok (decodeCBccc (condField rd) (annulBit rd) imm22)
  | _ => .error .unassignedOp2

/-- FPop1 (R155). -/
def decodeFpop1 (opf : BitVec 9) (rd rs1 rs2 : Reg) : Except Reject Instr :=
  match opf.toNat with
  | 0x001 => .ok (.fmovs rd rs2)
  | 0x005 => .ok (.fnegs rd rs2)
  | 0x009 => .ok (.fabss rd rs2)
  | 0x029 => .ok (.fsqrts rd rs2)
  | 0x02A => .ok (.fsqrtd rd rs2)
  | 0x02B => .ok (.fsqrtq rd rs2)
  | 0x041 => .ok (.fadds rd rs1 rs2)
  | 0x042 => .ok (.faddd rd rs1 rs2)
  | 0x043 => .ok (.faddq rd rs1 rs2)
  | 0x045 => .ok (.fsubs rd rs1 rs2)
  | 0x046 => .ok (.fsubd rd rs1 rs2)
  | 0x047 => .ok (.fsubq rd rs1 rs2)
  | 0x049 => .ok (.fmuls rd rs1 rs2)
  | 0x04A => .ok (.fmuld rd rs1 rs2)
  | 0x04B => .ok (.fmulq rd rs1 rs2)
  | 0x04D => .ok (.fdivs rd rs1 rs2)
  | 0x04E => .ok (.fdivd rd rs1 rs2)
  | 0x04F => .ok (.fdivq rd rs1 rs2)
  | 0x069 => .ok (.fsmuld rd rs1 rs2)
  | 0x06E => .ok (.fdmulq rd rs1 rs2)
  | 0x0C4 => .ok (.fitos rd rs2)
  | 0x0C6 => .ok (.fdtos rd rs2)
  | 0x0C7 => .ok (.fqtos rd rs2)
  | 0x0C8 => .ok (.fitod rd rs2)
  | 0x0C9 => .ok (.fstod rd rs2)
  | 0x0CB => .ok (.fqtod rd rs2)
  | 0x0CC => .ok (.fitoq rd rs2)
  | 0x0CD => .ok (.fstoq rd rs2)
  | 0x0CE => .ok (.fdtoq rd rs2)
  | 0x0D1 => .ok (.fstoi rd rs2)
  | 0x0D2 => .ok (.fdtoi rd rs2)
  | 0x0D3 => .ok (.fqtoi rd rs2)
  | _ => .error .unassignedFpop1

/-- FPop2 (R156). -/
def decodeFpop2 (opf : BitVec 9) (rs1 rs2 : Reg) : Except Reject Instr :=
  match opf.toNat with
  | 0x051 => .ok (.fcmps rs1 rs2)
  | 0x052 => .ok (.fcmpd rs1 rs2)
  | 0x053 => .ok (.fcmpq rs1 rs2)
  | 0x055 => .ok (.fcmpes rs1 rs2)
  | 0x056 => .ok (.fcmped rs1 rs2)
  | 0x057 => .ok (.fcmpeq rs1 rs2)
  | _ => .error .unassignedFpop2

/-- op3 = 101000: RDY, STBAR, RDASR (R157). DESIGN CHOICE: a word of STBAR with bit 13 = 1 is STBAR. R158 reads it as the STBAR row,
R161 says that bit 13 must be 0, and no rule says what a 1 does (log 13). -/
def decodeReadAsr (rd rs1 : Reg) : Instr :=
  if rs1 = 0 then .rdy rd else if rs1 = 15 ∧ rd = 0 then .stbar else .rdasr rd rs1

/-- op3 = 110000: WRY, WRASR (R157). -/
def decodeWriteAsr (rd rs1 : Reg) (o : RegOrImm) : Instr :=
  if rd = 0 then .wry rs1 o else .wrasr rd rs1 o

/-- op = 10 (R152). -/
def decodeArith (op3 : BitVec 6) (rd rs1 : Reg) (low : BitVec 14) : Except Reject Instr :=
  match op3.toNat with
  | 0x00 => .ok (.add rd rs1 (regOrImm low))
  | 0x01 => .ok (.and rd rs1 (regOrImm low))
  | 0x02 => .ok (.or rd rs1 (regOrImm low))
  | 0x03 => .ok (.xor rd rs1 (regOrImm low))
  | 0x04 => .ok (.sub rd rs1 (regOrImm low))
  | 0x05 => .ok (.andn rd rs1 (regOrImm low))
  | 0x06 => .ok (.orn rd rs1 (regOrImm low))
  | 0x07 => .ok (.xnor rd rs1 (regOrImm low))
  | 0x08 => .ok (.addx rd rs1 (regOrImm low))
  | 0x0A => .ok (.umul rd rs1 (regOrImm low))
  | 0x0B => .ok (.smul rd rs1 (regOrImm low))
  | 0x0C => .ok (.subx rd rs1 (regOrImm low))
  | 0x0E => .ok (.udiv rd rs1 (regOrImm low))
  | 0x0F => .ok (.sdiv rd rs1 (regOrImm low))
  | 0x10 => .ok (.addcc rd rs1 (regOrImm low))
  | 0x11 => .ok (.andcc rd rs1 (regOrImm low))
  | 0x12 => .ok (.orcc rd rs1 (regOrImm low))
  | 0x13 => .ok (.xorcc rd rs1 (regOrImm low))
  | 0x14 => .ok (.subcc rd rs1 (regOrImm low))
  | 0x15 => .ok (.andncc rd rs1 (regOrImm low))
  | 0x16 => .ok (.orncc rd rs1 (regOrImm low))
  | 0x17 => .ok (.xnorcc rd rs1 (regOrImm low))
  | 0x18 => .ok (.addxcc rd rs1 (regOrImm low))
  | 0x1A => .ok (.umulcc rd rs1 (regOrImm low))
  | 0x1B => .ok (.smulcc rd rs1 (regOrImm low))
  | 0x1C => .ok (.subxcc rd rs1 (regOrImm low))
  | 0x1E => .ok (.udivcc rd rs1 (regOrImm low))
  | 0x1F => .ok (.sdivcc rd rs1 (regOrImm low))
  | 0x20 => .ok (.taddcc rd rs1 (regOrImm low))
  | 0x21 => .ok (.tsubcc rd rs1 (regOrImm low))
  | 0x22 => .ok (.taddcctv rd rs1 (regOrImm low))
  | 0x23 => .ok (.tsubcctv rd rs1 (regOrImm low))
  | 0x24 => .ok (.mulscc rd rs1 (regOrImm low))
  | 0x25 => .ok (.sll rd rs1 (shiftOperand low))
  | 0x26 => .ok (.srl rd rs1 (shiftOperand low))
  | 0x27 => .ok (.sra rd rs1 (shiftOperand low))
  | 0x28 => .ok (decodeReadAsr rd rs1)
  | 0x29 => .ok (.rdpsr rd)
  | 0x2A => .ok (.rdwim rd)
  | 0x2B => .ok (.rdtbr rd)
  | 0x30 => .ok (decodeWriteAsr rd rs1 (regOrImm low))
  | 0x31 => .ok (.wrpsr rs1 (regOrImm low))
  | 0x32 => .ok (.wrwim rs1 (regOrImm low))
  | 0x33 => .ok (.wrtbr rs1 (regOrImm low))
  | 0x34 => decodeFpop1 (opfField low) rd rs1 (rs2Field low)
  | 0x35 => decodeFpop2 (opfField low) rs1 (rs2Field low)
  | 0x36 => .ok (.cpop1 rd rs1 (opfField low) (rs2Field low))
  | 0x37 => .ok (.cpop2 rd rs1 (opfField low) (rs2Field low))
  | 0x38 => .ok (.jmpl rd rs1 (regOrImm low))
  | 0x39 => .ok (.rett rs1 (regOrImm low))
  | 0x3A => .ok (decodeTicc (condField rd) rs1 (trapOperand low))
  | 0x3B => .ok (.flush rs1 (regOrImm low))
  | 0x3C => .ok (.save rd rs1 (regOrImm low))
  | 0x3D => .ok (.restore rd rs1 (regOrImm low))
  | _ => .error .unassignedArith

/-- op = 11 (R153). -/
def decodeMem (op3 : BitVec 6) (rd rs1 : Reg) (low : BitVec 14) : Except Reject Instr :=
  match op3.toNat with
  | 0x00 => .ok (.ld rd rs1 (regOrImm low))
  | 0x01 => .ok (.ldub rd rs1 (regOrImm low))
  | 0x02 => .ok (.lduh rd rs1 (regOrImm low))
  | 0x03 => .ok (.ldd rd rs1 (regOrImm low))
  | 0x04 => .ok (.st rd rs1 (regOrImm low))
  | 0x05 => .ok (.stb rd rs1 (regOrImm low))
  | 0x06 => .ok (.sth rd rs1 (regOrImm low))
  | 0x07 => .ok (.std rd rs1 (regOrImm low))
  | 0x09 => .ok (.ldsb rd rs1 (regOrImm low))
  | 0x0A => .ok (.ldsh rd rs1 (regOrImm low))
  | 0x0D => .ok (.ldstub rd rs1 (regOrImm low))
  | 0x0F => .ok (.swap rd rs1 (regOrImm low))
  | 0x10 => .ok (.lda rd rs1 (iBit low) (asiField low) (rs2Field low))
  | 0x11 => .ok (.lduba rd rs1 (iBit low) (asiField low) (rs2Field low))
  | 0x12 => .ok (.lduha rd rs1 (iBit low) (asiField low) (rs2Field low))
  | 0x13 => .ok (.ldda rd rs1 (iBit low) (asiField low) (rs2Field low))
  | 0x14 => .ok (.sta rd rs1 (iBit low) (asiField low) (rs2Field low))
  | 0x15 => .ok (.stba rd rs1 (iBit low) (asiField low) (rs2Field low))
  | 0x16 => .ok (.stha rd rs1 (iBit low) (asiField low) (rs2Field low))
  | 0x17 => .ok (.stda rd rs1 (iBit low) (asiField low) (rs2Field low))
  | 0x19 => .ok (.ldsba rd rs1 (iBit low) (asiField low) (rs2Field low))
  | 0x1A => .ok (.ldsha rd rs1 (iBit low) (asiField low) (rs2Field low))
  | 0x1D => .ok (.ldstuba rd rs1 (iBit low) (asiField low) (rs2Field low))
  | 0x1F => .ok (.swapa rd rs1 (iBit low) (asiField low) (rs2Field low))
  | 0x20 => .ok (.ldf rd rs1 (regOrImm low))
  | 0x21 => .ok (.ldfsr rd rs1 (regOrImm low))
  | 0x23 => .ok (.lddf rd rs1 (regOrImm low))
  | 0x24 => .ok (.stf rd rs1 (regOrImm low))
  | 0x25 => .ok (.stfsr rd rs1 (regOrImm low))
  | 0x26 => .ok (.stdfq rd rs1 (regOrImm low))
  | 0x27 => .ok (.stdf rd rs1 (regOrImm low))
  | 0x30 => .ok (.ldc rd rs1 (regOrImm low))
  | 0x31 => .ok (.ldcsr rd rs1 (regOrImm low))
  | 0x33 => .ok (.lddc rd rs1 (regOrImm low))
  | 0x34 => .ok (.stc rd rs1 (regOrImm low))
  | 0x35 => .ok (.stcsr rd rs1 (regOrImm low))
  | 0x36 => .ok (.stdcq rd rs1 (regOrImm low))
  | 0x37 => .ok (.stdc rd rs1 (regOrImm low))
  | _ => .error .unassignedMem

/-- The instruction a word stands for, or why it stands for none (R140, R150 to R160). -/
def decodeWord (w : Word) : Except Reject Instr :=
  match (opField w).toNat with
  | 0 => decodeFormat2 (rdField w) (op2Field w) (imm22Field w)
  | 1 => .ok (.call (disp30Field w))
  | 2 => decodeArith (op3Field w) (rdField w) (rs1Field w) (lowField w)
  | _ => decodeMem (op3Field w) (rdField w) (rs1Field w) (lowField w)

/-- The word four bytes hold, the byte at the lowest address most significant (R104, R106). -/
def wordOfBytes (b0 b1 b2 b3 : Byte) : Word := b0 ++ b1 ++ b2 ++ b3

/-- Decoding the four bytes at PC, PC+1, PC+2, PC+3 (R106). -/
def decodeBytes (b0 b1 b2 b3 : Byte) : Except Reject Instr := decodeWord (wordOfBytes b0 b1 b2 b3)

/-- The byte of a word at offset `k` from its address: offset 0 holds bits 31:24 (R104). -/
def byteOfWord (w : Word) (k : Nat) : Byte := w.extractLsb' (8 * (3 - k)) 8

/-- The instruction the decoder reads from the table's word `w` (one 32-bit word, so bit 0 is its least significant bit),
stored big-endian. -/
def decodeTableWord (nbits w : Nat) : Option Instr :=
  let v : Word := BitVec.ofNat 32 (w % 2 ^ nbits)
  match decodeBytes (byteOfWord v 0) (byteOfWord v 1) (byteOfWord v 2) (byteOfWord v 3) with
  | .ok i => some i
  | .error _ => none

/-! ### The encoder (R142 to R144) -/

/-- Format 1. -/
def format1 (disp30 : BitVec 30) : Word := 0b01#2 ++ disp30
/-- Format 2; a branch has `a ++ cond` in place of rd. -/
def format2 (rd : Reg) (op2 : BitVec 3) (imm22 : BitVec 22) : Word := 0b00#2 ++ rd ++ op2 ++ imm22
/-- Format 3. -/
def format3 (op : BitVec 2) (rd : Reg) (op3 : BitVec 6) (rs1 : Reg) (low : BitVec 14) : Word := op ++ rd ++ op3 ++ rs1 ++ low
/-- Bits 29:25 of a branch or a Ticc. -/
def annulCond (a : Bool) (cond : BitVec 4) : Reg := BitVec.ofBool a ++ cond
/-- Bits 13:0 of a register form or an alternate-space form. -/
def lowAsi (i : Bool) (asi : Asi) (rs2 : Reg) : BitVec 14 := BitVec.ofBool i ++ asi ++ rs2
/-- Bits 13:0 of a register or immediate form (R144). -/
def lowRegOrImm : RegOrImm → BitVec 14
  | .reg rs2 => lowAsi false 0 rs2
  | .imm simm13 => 0b1#1 ++ simm13
/-- Bits 13:0 of a shift (R320). -/
def lowShift : ShiftOperand → BitVec 14
  | .reg rs2 => lowAsi false 0 rs2
  | .cnt shcnt => lowAsi true 0 shcnt
/-- Bits 13:0 of a Ticc (R144). -/
def lowTrap : TrapOperand → BitVec 14
  | .reg rs2 => lowAsi false 0 rs2
  | .imm imm7 => 0b1000000#7 ++ imm7
/-- Bits 13:0 of an FPop or a CPop. -/
def lowOpf (opf : BitVec 9) (rs2 : Reg) : BitVec 14 := opf ++ rs2

/-- The word of an instruction, zero in every unused and reserved field. -/
def encode : Instr → Word
  | .ldsb rd rs1 o => format3 3 rd 0x09 rs1 (lowRegOrImm o)
  | .ldsh rd rs1 o => format3 3 rd 0x0A rs1 (lowRegOrImm o)
  | .ldub rd rs1 o => format3 3 rd 0x01 rs1 (lowRegOrImm o)
  | .lduh rd rs1 o => format3 3 rd 0x02 rs1 (lowRegOrImm o)
  | .ld rd rs1 o => format3 3 rd 0x00 rs1 (lowRegOrImm o)
  | .ldd rd rs1 o => format3 3 rd 0x03 rs1 (lowRegOrImm o)
  | .ldsba rd rs1 i asi rs2 => format3 3 rd 0x19 rs1 (lowAsi i asi rs2)
  | .ldsha rd rs1 i asi rs2 => format3 3 rd 0x1A rs1 (lowAsi i asi rs2)
  | .lduba rd rs1 i asi rs2 => format3 3 rd 0x11 rs1 (lowAsi i asi rs2)
  | .lduha rd rs1 i asi rs2 => format3 3 rd 0x12 rs1 (lowAsi i asi rs2)
  | .lda rd rs1 i asi rs2 => format3 3 rd 0x10 rs1 (lowAsi i asi rs2)
  | .ldda rd rs1 i asi rs2 => format3 3 rd 0x13 rs1 (lowAsi i asi rs2)
  | .ldf rd rs1 o => format3 3 rd 0x20 rs1 (lowRegOrImm o)
  | .lddf rd rs1 o => format3 3 rd 0x23 rs1 (lowRegOrImm o)
  | .ldfsr rd rs1 o => format3 3 rd 0x21 rs1 (lowRegOrImm o)
  | .ldc rd rs1 o => format3 3 rd 0x30 rs1 (lowRegOrImm o)
  | .lddc rd rs1 o => format3 3 rd 0x33 rs1 (lowRegOrImm o)
  | .ldcsr rd rs1 o => format3 3 rd 0x31 rs1 (lowRegOrImm o)
  | .stb rd rs1 o => format3 3 rd 0x05 rs1 (lowRegOrImm o)
  | .sth rd rs1 o => format3 3 rd 0x06 rs1 (lowRegOrImm o)
  | .st rd rs1 o => format3 3 rd 0x04 rs1 (lowRegOrImm o)
  | .std rd rs1 o => format3 3 rd 0x07 rs1 (lowRegOrImm o)
  | .stba rd rs1 i asi rs2 => format3 3 rd 0x15 rs1 (lowAsi i asi rs2)
  | .stha rd rs1 i asi rs2 => format3 3 rd 0x16 rs1 (lowAsi i asi rs2)
  | .sta rd rs1 i asi rs2 => format3 3 rd 0x14 rs1 (lowAsi i asi rs2)
  | .stda rd rs1 i asi rs2 => format3 3 rd 0x17 rs1 (lowAsi i asi rs2)
  | .stf rd rs1 o => format3 3 rd 0x24 rs1 (lowRegOrImm o)
  | .stdf rd rs1 o => format3 3 rd 0x27 rs1 (lowRegOrImm o)
  | .stfsr rd rs1 o => format3 3 rd 0x25 rs1 (lowRegOrImm o)
  | .stdfq rd rs1 o => format3 3 rd 0x26 rs1 (lowRegOrImm o)
  | .stc rd rs1 o => format3 3 rd 0x34 rs1 (lowRegOrImm o)
  | .stdc rd rs1 o => format3 3 rd 0x37 rs1 (lowRegOrImm o)
  | .stcsr rd rs1 o => format3 3 rd 0x35 rs1 (lowRegOrImm o)
  | .stdcq rd rs1 o => format3 3 rd 0x36 rs1 (lowRegOrImm o)
  | .ldstub rd rs1 o => format3 3 rd 0x0D rs1 (lowRegOrImm o)
  | .ldstuba rd rs1 i asi rs2 => format3 3 rd 0x1D rs1 (lowAsi i asi rs2)
  | .swap rd rs1 o => format3 3 rd 0x0F rs1 (lowRegOrImm o)
  | .swapa rd rs1 i asi rs2 => format3 3 rd 0x1F rs1 (lowAsi i asi rs2)
  | .nop => format2 0 4 0
  | .sethi rd imm22 => format2 rd 4 imm22
  | .and rd rs1 o => format3 2 rd 0x01 rs1 (lowRegOrImm o)
  | .andcc rd rs1 o => format3 2 rd 0x11 rs1 (lowRegOrImm o)
  | .andn rd rs1 o => format3 2 rd 0x05 rs1 (lowRegOrImm o)
  | .andncc rd rs1 o => format3 2 rd 0x15 rs1 (lowRegOrImm o)
  | .or rd rs1 o => format3 2 rd 0x02 rs1 (lowRegOrImm o)
  | .orcc rd rs1 o => format3 2 rd 0x12 rs1 (lowRegOrImm o)
  | .orn rd rs1 o => format3 2 rd 0x06 rs1 (lowRegOrImm o)
  | .orncc rd rs1 o => format3 2 rd 0x16 rs1 (lowRegOrImm o)
  | .xor rd rs1 o => format3 2 rd 0x03 rs1 (lowRegOrImm o)
  | .xorcc rd rs1 o => format3 2 rd 0x13 rs1 (lowRegOrImm o)
  | .xnor rd rs1 o => format3 2 rd 0x07 rs1 (lowRegOrImm o)
  | .xnorcc rd rs1 o => format3 2 rd 0x17 rs1 (lowRegOrImm o)
  | .sll rd rs1 o => format3 2 rd 0x25 rs1 (lowShift o)
  | .srl rd rs1 o => format3 2 rd 0x26 rs1 (lowShift o)
  | .sra rd rs1 o => format3 2 rd 0x27 rs1 (lowShift o)
  | .add rd rs1 o => format3 2 rd 0x00 rs1 (lowRegOrImm o)
  | .addcc rd rs1 o => format3 2 rd 0x10 rs1 (lowRegOrImm o)
  | .addx rd rs1 o => format3 2 rd 0x08 rs1 (lowRegOrImm o)
  | .addxcc rd rs1 o => format3 2 rd 0x18 rs1 (lowRegOrImm o)
  | .taddcc rd rs1 o => format3 2 rd 0x20 rs1 (lowRegOrImm o)
  | .taddcctv rd rs1 o => format3 2 rd 0x22 rs1 (lowRegOrImm o)
  | .sub rd rs1 o => format3 2 rd 0x04 rs1 (lowRegOrImm o)
  | .subcc rd rs1 o => format3 2 rd 0x14 rs1 (lowRegOrImm o)
  | .subx rd rs1 o => format3 2 rd 0x0C rs1 (lowRegOrImm o)
  | .subxcc rd rs1 o => format3 2 rd 0x1C rs1 (lowRegOrImm o)
  | .tsubcc rd rs1 o => format3 2 rd 0x21 rs1 (lowRegOrImm o)
  | .tsubcctv rd rs1 o => format3 2 rd 0x23 rs1 (lowRegOrImm o)
  | .mulscc rd rs1 o => format3 2 rd 0x24 rs1 (lowRegOrImm o)
  | .umul rd rs1 o => format3 2 rd 0x0A rs1 (lowRegOrImm o)
  | .smul rd rs1 o => format3 2 rd 0x0B rs1 (lowRegOrImm o)
  | .umulcc rd rs1 o => format3 2 rd 0x1A rs1 (lowRegOrImm o)
  | .smulcc rd rs1 o => format3 2 rd 0x1B rs1 (lowRegOrImm o)
  | .udiv rd rs1 o => format3 2 rd 0x0E rs1 (lowRegOrImm o)
  | .sdiv rd rs1 o => format3 2 rd 0x0F rs1 (lowRegOrImm o)
  | .udivcc rd rs1 o => format3 2 rd 0x1E rs1 (lowRegOrImm o)
  | .sdivcc rd rs1 o => format3 2 rd 0x1F rs1 (lowRegOrImm o)
  | .save rd rs1 o => format3 2 rd 0x3C rs1 (lowRegOrImm o)
  | .restore rd rs1 o => format3 2 rd 0x3D rs1 (lowRegOrImm o)
  | .ba a disp22 => format2 (annulCond a 8) 2 disp22
  | .bn a disp22 => format2 (annulCond a 0) 2 disp22
  | .bne a disp22 => format2 (annulCond a 9) 2 disp22
  | .be a disp22 => format2 (annulCond a 1) 2 disp22
  | .bg a disp22 => format2 (annulCond a 10) 2 disp22
  | .ble a disp22 => format2 (annulCond a 2) 2 disp22
  | .bge a disp22 => format2 (annulCond a 11) 2 disp22
  | .bl a disp22 => format2 (annulCond a 3) 2 disp22
  | .bgu a disp22 => format2 (annulCond a 12) 2 disp22
  | .bleu a disp22 => format2 (annulCond a 4) 2 disp22
  | .bcc a disp22 => format2 (annulCond a 13) 2 disp22
  | .bcs a disp22 => format2 (annulCond a 5) 2 disp22
  | .bpos a disp22 => format2 (annulCond a 14) 2 disp22
  | .bneg a disp22 => format2 (annulCond a 6) 2 disp22
  | .bvc a disp22 => format2 (annulCond a 15) 2 disp22
  | .bvs a disp22 => format2 (annulCond a 7) 2 disp22
  | .fba a disp22 => format2 (annulCond a 8) 6 disp22
  | .fbn a disp22 => format2 (annulCond a 0) 6 disp22
  | .fbu a disp22 => format2 (annulCond a 7) 6 disp22
  | .fbg a disp22 => format2 (annulCond a 6) 6 disp22
  | .fbug a disp22 => format2 (annulCond a 5) 6 disp22
  | .fbl a disp22 => format2 (annulCond a 4) 6 disp22
  | .fbul a disp22 => format2 (annulCond a 3) 6 disp22
  | .fblg a disp22 => format2 (annulCond a 2) 6 disp22
  | .fbne a disp22 => format2 (annulCond a 1) 6 disp22
  | .fbe a disp22 => format2 (annulCond a 9) 6 disp22
  | .fbue a disp22 => format2 (annulCond a 10) 6 disp22
  | .fbge a disp22 => format2 (annulCond a 11) 6 disp22
  | .fbuge a disp22 => format2 (annulCond a 12) 6 disp22
  | .fble a disp22 => format2 (annulCond a 13) 6 disp22
  | .fbule a disp22 => format2 (annulCond a 14) 6 disp22
  | .fbo a disp22 => format2 (annulCond a 15) 6 disp22
  | .cba a disp22 => format2 (annulCond a 8) 7 disp22
  | .cbn a disp22 => format2 (annulCond a 0) 7 disp22
  | .cb3 a disp22 => format2 (annulCond a 7) 7 disp22
  | .cb2 a disp22 => format2 (annulCond a 6) 7 disp22
  | .cb23 a disp22 => format2 (annulCond a 5) 7 disp22
  | .cb1 a disp22 => format2 (annulCond a 4) 7 disp22
  | .cb13 a disp22 => format2 (annulCond a 3) 7 disp22
  | .cb12 a disp22 => format2 (annulCond a 2) 7 disp22
  | .cb123 a disp22 => format2 (annulCond a 1) 7 disp22
  | .cb0 a disp22 => format2 (annulCond a 9) 7 disp22
  | .cb03 a disp22 => format2 (annulCond a 10) 7 disp22
  | .cb02 a disp22 => format2 (annulCond a 11) 7 disp22
  | .cb023 a disp22 => format2 (annulCond a 12) 7 disp22
  | .cb01 a disp22 => format2 (annulCond a 13) 7 disp22
  | .cb013 a disp22 => format2 (annulCond a 14) 7 disp22
  | .cb012 a disp22 => format2 (annulCond a 15) 7 disp22
  | .call disp30 => format1 disp30
  | .jmpl rd rs1 o => format3 2 rd 0x38 rs1 (lowRegOrImm o)
  | .rett rs1 o => format3 2 0 0x39 rs1 (lowRegOrImm o)
  | .ta rs1 o => format3 2 (annulCond false 8) 0x3A rs1 (lowTrap o)
  | .tn rs1 o => format3 2 (annulCond false 0) 0x3A rs1 (lowTrap o)
  | .tne rs1 o => format3 2 (annulCond false 9) 0x3A rs1 (lowTrap o)
  | .te rs1 o => format3 2 (annulCond false 1) 0x3A rs1 (lowTrap o)
  | .tg rs1 o => format3 2 (annulCond false 10) 0x3A rs1 (lowTrap o)
  | .tle rs1 o => format3 2 (annulCond false 2) 0x3A rs1 (lowTrap o)
  | .tge rs1 o => format3 2 (annulCond false 11) 0x3A rs1 (lowTrap o)
  | .tl rs1 o => format3 2 (annulCond false 3) 0x3A rs1 (lowTrap o)
  | .tgu rs1 o => format3 2 (annulCond false 12) 0x3A rs1 (lowTrap o)
  | .tleu rs1 o => format3 2 (annulCond false 4) 0x3A rs1 (lowTrap o)
  | .tcc rs1 o => format3 2 (annulCond false 13) 0x3A rs1 (lowTrap o)
  | .tcs rs1 o => format3 2 (annulCond false 5) 0x3A rs1 (lowTrap o)
  | .tpos rs1 o => format3 2 (annulCond false 14) 0x3A rs1 (lowTrap o)
  | .tneg rs1 o => format3 2 (annulCond false 6) 0x3A rs1 (lowTrap o)
  | .tvc rs1 o => format3 2 (annulCond false 15) 0x3A rs1 (lowTrap o)
  | .tvs rs1 o => format3 2 (annulCond false 7) 0x3A rs1 (lowTrap o)
  | .rdy rd => format3 2 rd 0x28 0 0
  | .stbar => format3 2 0 0x28 15 0
  | .rdasr rd rs1 => format3 2 rd 0x28 rs1 0
  | .rdpsr rd => format3 2 rd 0x29 0 0
  | .rdwim rd => format3 2 rd 0x2A 0 0
  | .rdtbr rd => format3 2 rd 0x2B 0 0
  | .wry rs1 o => format3 2 0 0x30 rs1 (lowRegOrImm o)
  | .wrasr rd rs1 o => format3 2 rd 0x30 rs1 (lowRegOrImm o)
  | .wrpsr rs1 o => format3 2 0 0x31 rs1 (lowRegOrImm o)
  | .wrwim rs1 o => format3 2 0 0x32 rs1 (lowRegOrImm o)
  | .wrtbr rs1 o => format3 2 0 0x33 rs1 (lowRegOrImm o)
  | .unimp const22 => format2 0 0 const22
  | .flush rs1 o => format3 2 0 0x3B rs1 (lowRegOrImm o)
  | .fitos rd rs2 => format3 2 rd 0x34 0 (lowOpf 0x0C4 rs2)
  | .fitod rd rs2 => format3 2 rd 0x34 0 (lowOpf 0x0C8 rs2)
  | .fitoq rd rs2 => format3 2 rd 0x34 0 (lowOpf 0x0CC rs2)
  | .fstoi rd rs2 => format3 2 rd 0x34 0 (lowOpf 0x0D1 rs2)
  | .fdtoi rd rs2 => format3 2 rd 0x34 0 (lowOpf 0x0D2 rs2)
  | .fqtoi rd rs2 => format3 2 rd 0x34 0 (lowOpf 0x0D3 rs2)
  | .fstod rd rs2 => format3 2 rd 0x34 0 (lowOpf 0x0C9 rs2)
  | .fstoq rd rs2 => format3 2 rd 0x34 0 (lowOpf 0x0CD rs2)
  | .fdtos rd rs2 => format3 2 rd 0x34 0 (lowOpf 0x0C6 rs2)
  | .fdtoq rd rs2 => format3 2 rd 0x34 0 (lowOpf 0x0CE rs2)
  | .fqtos rd rs2 => format3 2 rd 0x34 0 (lowOpf 0x0C7 rs2)
  | .fqtod rd rs2 => format3 2 rd 0x34 0 (lowOpf 0x0CB rs2)
  | .fmovs rd rs2 => format3 2 rd 0x34 0 (lowOpf 0x001 rs2)
  | .fnegs rd rs2 => format3 2 rd 0x34 0 (lowOpf 0x005 rs2)
  | .fabss rd rs2 => format3 2 rd 0x34 0 (lowOpf 0x009 rs2)
  | .fsqrts rd rs2 => format3 2 rd 0x34 0 (lowOpf 0x029 rs2)
  | .fsqrtd rd rs2 => format3 2 rd 0x34 0 (lowOpf 0x02A rs2)
  | .fsqrtq rd rs2 => format3 2 rd 0x34 0 (lowOpf 0x02B rs2)
  | .fadds rd rs1 rs2 => format3 2 rd 0x34 rs1 (lowOpf 0x041 rs2)
  | .faddd rd rs1 rs2 => format3 2 rd 0x34 rs1 (lowOpf 0x042 rs2)
  | .faddq rd rs1 rs2 => format3 2 rd 0x34 rs1 (lowOpf 0x043 rs2)
  | .fsubs rd rs1 rs2 => format3 2 rd 0x34 rs1 (lowOpf 0x045 rs2)
  | .fsubd rd rs1 rs2 => format3 2 rd 0x34 rs1 (lowOpf 0x046 rs2)
  | .fsubq rd rs1 rs2 => format3 2 rd 0x34 rs1 (lowOpf 0x047 rs2)
  | .fmuls rd rs1 rs2 => format3 2 rd 0x34 rs1 (lowOpf 0x049 rs2)
  | .fmuld rd rs1 rs2 => format3 2 rd 0x34 rs1 (lowOpf 0x04A rs2)
  | .fmulq rd rs1 rs2 => format3 2 rd 0x34 rs1 (lowOpf 0x04B rs2)
  | .fsmuld rd rs1 rs2 => format3 2 rd 0x34 rs1 (lowOpf 0x069 rs2)
  | .fdmulq rd rs1 rs2 => format3 2 rd 0x34 rs1 (lowOpf 0x06E rs2)
  | .fdivs rd rs1 rs2 => format3 2 rd 0x34 rs1 (lowOpf 0x04D rs2)
  | .fdivd rd rs1 rs2 => format3 2 rd 0x34 rs1 (lowOpf 0x04E rs2)
  | .fdivq rd rs1 rs2 => format3 2 rd 0x34 rs1 (lowOpf 0x04F rs2)
  | .fcmps rs1 rs2 => format3 2 0 0x35 rs1 (lowOpf 0x051 rs2)
  | .fcmpd rs1 rs2 => format3 2 0 0x35 rs1 (lowOpf 0x052 rs2)
  | .fcmpq rs1 rs2 => format3 2 0 0x35 rs1 (lowOpf 0x053 rs2)
  | .fcmpes rs1 rs2 => format3 2 0 0x35 rs1 (lowOpf 0x055 rs2)
  | .fcmped rs1 rs2 => format3 2 0 0x35 rs1 (lowOpf 0x056 rs2)
  | .fcmpeq rs1 rs2 => format3 2 0 0x35 rs1 (lowOpf 0x057 rs2)
  | .cpop1 rd rs1 opc rs2 => format3 2 rd 0x36 rs1 (lowOpf opc rs2)
  | .cpop2 rd rs1 opc rs2 => format3 2 rd 0x37 rs1 (lowOpf opc rs2)

end Sys2Proof
end

