-- ==== Sys2Proof/Config.lean ====
section
/-! DEFINITION. The configuration record of spec/00_scope.md R6, and the free values: constants without a body for what the
spec leaves undefined. A parameter has the spec's default value unless its docstring says otherwise (log 19). -/

namespace Sys2Proof.Config

/-! ### Parameters of R6 -/

/-- How a signed divide detects overflow of a negative quotient (R363). -/
inductive DivNegOvf | methodA | methodB
  deriving DecidableEq, Repr

/-- What a divide leaves in Y (R371). -/
inductive DivY | preserve | remainder | any
  deriving DecidableEq, Repr

/-- Whether FLUSH traps (R522). -/
inductive FlushTraps | none | unimplementedFlush | illegalInstruction
  deriving DecidableEq, Repr

/-- What a nonzero reserved field does (R162). -/
inductive ReservedPolicy | ignore | refuse
  deriving DecidableEq, Repr

/-- `NWINDOWS`: number of register windows, 2 to 32 (D24). -/
def nwindows : Nat := 8
/-- `PSR_IMPL` (D25). -/
def psrImpl : BitVec 4 := 0
/-- `PSR_VER`, hardwired (D25). -/
def psrVer : BitVec 4 := 0
/-- `HAS_FPU` (D17). -/
def hasFpu : Bool := true
/-- `FSR_VER`: 7 without an FPU (D26). -/
def fsrVer : BitVec 3 := if hasFpu then 0 else 7
/-- `HAS_FQ` (D17). -/
def hasFq : Bool := false
/-- `IMPLEMENTED_FPOPS`: which assigned opf values the FPU executes; all 38 (D17). -/
def implementedFpop (_opf : BitVec 9) : Bool := true
/-- `HAS_CP` (D16). -/
def hasCp : Bool := false
/-- `ASR_SET`: the implemented ancillary state registers among 16 to 31; none (D18). -/
def asrSet : List Reg := []
/-- `ODD_RD_TRAPS` (D14). -/
def oddRdTraps : Bool := true
/-- `INVALID_FP_REG_TRAPS` (D15). -/
def invalidFpRegTraps : Bool := true
/-- `DIV_NEG_OVF_METHOD` (D21). -/
def divNegOvf : DivNegOvf := .methodA
/-- `DIV_Y_POLICY` (D21). -/
def divY : DivY := .any
/-- `FLUSH_TRAPS` (D20). -/
def flushTraps : FlushTraps := .none
/-- `FLUSH_LATENCY`: 0 to 5 instructions (D11). -/
def flushLatency : Nat := 5
/-- `STFSR_CLEARS_FTT` (D28). -/
def stfsrClearsFtt : Bool := false
/-- `RESERVED_FIELD_POLICY`. DESIGN CHOICE, unsafe: the spec's default is refuse; of its two settings this model takes ignore,
which gives the words an effect (log 13). -/
def reservedPolicy : ReservedPolicy := .ignore
/-- `ASI_USER_INSTR` (D9). -/
def asiUserInstr : Asi := 0x08
/-- `ASI_SUPER_INSTR` (D9). -/
def asiSuperInstr : Asi := 0x09
/-- `ASI_USER_DATA` (D9). -/
def asiUserData : Asi := 0x0A
/-- `ASI_SUPER_DATA` (D9). -/
def asiSuperData : Asi := 0x0B

/-! ### Free values

Each is applied to `State.freeCount` (or to the operands the value belongs to). Nothing constrains it, so a theorem holds for
every value. -/

/-- The icc an instruction reads inside a WRPSR window that changed icc (R712 item 2, log 6). -/
opaque freeIccRead : Nat → BitVec 4
/-- The icc left by a cc write inside a WRPSR window (R712 item 1, log 7). -/
opaque freeIccWrite : Nat → BitVec 4
/-- The CWP read inside a WRPSR window that changed CWP, taken modulo NWINDOWS (log 6, log 36). -/
opaque freeCwpRead : Nat → Nat
/-- The CWP left by SAVE, RESTORE or RETT inside a WRPSR window, taken modulo NWINDOWS (log 7, log 36). -/
opaque freeCwpWrite : Nat → Nat
/-- S read inside a window that changed it (log 6). -/
opaque freeSRead : Nat → Bool
/-- S left by RETT inside a WRPSR window (log 7). -/
opaque freeSWrite : Nat → Bool
/-- PS read inside a window that changed it (log 6). -/
opaque freePsRead : Nat → Bool
/-- ET read by RETT or RDPSR inside a window that changed it (log 6). -/
opaque freeEtRead : Nat → Bool
/-- ET left by RETT inside a WRPSR window (log 7). -/
opaque freeEtWrite : Nat → Bool
/-- PIL read by RDPSR inside a window that changed it (log 6). -/
opaque freePilRead : Nat → BitVec 4
/-- EF read inside a window that changed it (log 6). -/
opaque freeEfRead : Nat → Bool
/-- EC read inside a window that changed it (log 6). -/
opaque freeEcRead : Nat → Bool
/-- WIM read inside a WRWIM window that changed it (log 6). -/
opaque freeWimRead : Nat → Word
/-- TBA read by RDTBR inside a WRTBR window that changed it (log 6). -/
opaque freeTbaRead : Nat → BitVec 20
/-- Y read inside a WRY window that changed it (log 6). -/
opaque freeYRead : Nat → Word
/-- Y left by an implicit write inside a WRY window (log 7). -/
opaque freeYWrite : Nat → Word
/-- Y after a divide under `DivY.any`, and after an overflowing divide under `DivY.remainder` (R371, log 15). -/
opaque freeYDivide : Nat → Word
/-- ET used by a trap inside a WRPSR window that changed ET (R712, log 8). -/
opaque drawTrapEt : Nat → Bool
/-- Whether a trap inside a WRPSR window copies the old S into PS (R712 item 4, log 8). -/
opaque drawTrapOldS : Nat → Bool
/-- Whether a trap inside a WRPSR window decrements the old CWP (R712 item 4, log 8). -/
opaque drawTrapOldCwp : Nat → Bool
/-- Whether a trap inside a WRTBR window vectors through the old TBA (R712 item 5, log 8). -/
opaque drawTrapOldTba : Nat → Bool
/-- TBR.tt after an entry to error_mode other than RETT's (R612, log 16). -/
opaque freeErrorTt : Nat → BitVec 8
/-- Whether the interrupt of the PIL and ET quirk is taken (R620, log 18). -/
opaque drawPilQuirk : Nat → Bool
/-- The outcome of an FBfcc under the hazards of R713 (log 9). -/
opaque freeFbfccTaken : Nat → Bool
/-- PC after a branch in the delay slot of a conditional branch, without its two low zero bits (R716, log 10). -/
opaque freeCouplePc : Nat → BitVec 30
/-- nPC after a branch in the delay slot of a conditional branch, without its two low zero bits (R716, log 10). -/
opaque freeCoupleNpc : Nat → BitVec 30
/-- The mode whose instruction space a fetch uses after a RETT without JMPL (R716, log 11). -/
opaque drawFetchS : Nat → Bool
/-- The word fetched from a doubleword stored to and not yet flushed (R125, log 12). -/
opaque freeFetchWord : Nat → Word
/-- Whether the first half of a faulting doubleword or atomic access is done (R113, log 28). -/
opaque drawFirstHalf : Nat → Bool
/-- Whether a faulting FP load sets its destination to the predetermined constant (R113, log 29). -/
opaque drawFaultedLoad : Nat → Bool
/-- The predetermined constant of a faulting LDF (R113, log 29). -/
opaque faultedSingle : Word
/-- The predetermined constant of a faulting LDDF (R113, log 29). -/
opaque faultedDouble : DWord
/-- What RDASR reads from a reserved ASR 1 to 14 (R502, log 24). -/
opaque freeAsr : Nat → Word
/-- The condition codes bp_CP_cc a coprocessor would supply (R450, log 27). -/
opaque freeCpCc : Nat → BitVec 2
/-- The result bits of an FPop run with FSR.NS = 1 (R67, log 14). -/
opaque freeNsResult : Nat → Nat
/-- The exceptions of an FPop run with FSR.NS = 1, before masking to those the FPop can raise (R67, log 14). -/
opaque freeNsExc : Nat → BitVec 5
/-- The sign of the NaN an FPop delivers: of opf, RD and the operands' bits (R541, log 22). -/
opaque nanSign : BitVec 9 → BitVec 2 → Nat → Nat → Bool
/-- The payload of the NaN an FPop delivers, taken modulo its width (R541, log 22). -/
opaque nanPayload : BitVec 9 → BitVec 2 → Nat → Nat → Nat
/-- The integer of an invalid conversion: of opf and the operand's bits (R541, log 23). -/
opaque invalidInteger : BitVec 9 → Nat → Word

end Sys2Proof.Config
end

