-- ==== Sys2Proof/Machine/State.lean ====
section
/-! DEFINITION. The architectural state (spec/10_state.md R20, R80; spec/20_memory.md R100), the state after reset (R90), and the
reasons a step can stop. -/

namespace Sys2Proof.Machine

/-- The integer condition codes, PSR bits 23 to 20 (R41). -/
structure Icc where
  n : Bool
  z : Bool
  v : Bool
  c : Bool
  deriving DecidableEq, Repr

/-- The stored fields of the PSR (R40). impl, ver and the bits that read as 0 are not stored: `State.psrWord` supplies them. -/
structure Psr where
  icc : Icc
  ec  : Bool
  ef  : Bool
  pil : BitVec 4
  s   : Bool
  ps  : Bool
  et  : Bool
  cwp : BitVec 5
  deriving DecidableEq, Repr

/-- The stored fields of the TBR (R51); bits 3 to 0 read as 0. -/
structure Tbr where
  tba : BitVec 20
  tt  : BitVec 8
  deriving DecidableEq, Repr

/-- The stored fields of the FSR (R63). ver and the unused bits are supplied by `State.fsrWord`. The five exception bits are
NV, OF, UF, DZ, NX from bit 4 down to bit 0. -/
structure Fsr where
  rd   : BitVec 2
  tem  : BitVec 5
  ns   : Bool
  ftt  : BitVec 3
  qne  : Bool
  fcc  : BitVec 2
  aexc : BitVec 5
  cexc : BitVec 5
  deriving DecidableEq, Repr

/-- A delayed-write window over a register with one field (R712): how many instructions it still covers, and the old value if the
write changed it. -/
structure Shadow (α : Type) where
  count : Nat
  old   : Option α
  deriving DecidableEq, Repr

/-- The delayed-write window over the PSR (R712): the old value of each field that changed. -/
structure PsrShadow where
  count : Nat
  icc : Option Icc
  ec  : Option Bool
  ef  : Option Bool
  pil : Option (BitVec 4)
  s   : Option Bool
  ps  : Option Bool
  et  : Option Bool
  cwp : Option (BitVec 5)
  deriving DecidableEq, Repr

/-- A WRPSR that changed PIL and took ET from 0 to 1, within its three steps: the steps left and the PIL before it (R620). -/
structure PilQuirk where
  count : Nat
  old   : BitVec 4
  deriving DecidableEq, Repr

/-- The hidden state of the hazards (R80, R712, R713, R716, R620). -/
structure Hazards where
  psr : PsrShadow
  wim : Shadow Word
  tbr : Shadow (BitVec 20)
  y   : Shadow Word
  ldfsrCount     : Nat
  fpop2Prev      : Bool
  prevCondBranch : Bool
  prevJmpl       : Bool
  /-- the PIL and ET quirks of WRPSR whose three steps are not over, the latest first (R620, log 18) -/
  pilQuirks      : List PilQuirk
  /-- a RETT ran without its JMPL: the address space of the following fetches is open (R716 (b), log 11) -/
  fetchSpaceOpen : Bool
  deriving DecidableEq, Repr

/-- A doubleword whose internal instruction copy may be stale (R125). -/
inductive FlushStatus
  | dirty
  | counting (k : Nat)
  deriving DecidableEq, Repr

/-- The kind of an access, as MemFault is asked (R112). -/
inductive AccessKind | fetch | load | store | atomic
  deriving DecidableEq, Repr

/-- The answers of MemFault other than none (R112). -/
inductive AccessFault | exception | error | storeError
  deriving DecidableEq, Repr

/-- One entry of the platform's fault map: an access of this kind and size through this space that touches a byte from `first`
to `last` fails with `fault`; without a size, an access of any size does (R6, R112, log 4). -/
structure FaultEntry where
  asi   : Asi
  kind  : AccessKind
  size  : Option Nat
  first : Word
  last  : Word
  fault : AccessFault
  deriving DecidableEq, Repr

/-- The state of one SPARC processor, its memory, and its inputs. -/
structure State where
  /-- r[1] to r[7] (R21); r[0] is not state (R25) -/
  globals : Vector Word 7
  /-- the locals and ins of every register set: register r[i] of window w is word `State.slot w i` (R23) -/
  windows : Vector Word (16 * Config.nwindows)
  pc  : Word
  npc : Word
  psr : Psr
  wim : Word
  tbr : Tbr
  y   : Word
  /-- f[0] to f[31] (R60) -/
  f   : Vector Word 32
  fsr : Fsr
  /-- the halted state (R612) -/
  errorMode : Bool
  haz : Hazards
  /-- doubleword addresses not yet coherent for fetches, rising (R125) -/
  flushPending : List (Nat × FlushStatus)
  /-- memory: address and byte, addresses rising, no byte 0 listed; an unlisted address reads 0 (log 3) -/
  mem : List Host.Cell
  /-- input: the interrupt request level of this and the coming steps, 0 when the list is empty (R620, log 17) -/
  irl : List (BitVec 4)
  /-- the platform's fault map, which no step changes (R112, log 4) -/
  memFaults : List FaultEntry
  /-- which free values this step uses (log 34) -/
  freeCount : Nat
  deriving DecidableEq, Repr

/-- The reasons the machine stops with a fault. -/
inductive Fault
  /-- Raised by `step` while error_mode holds: the processor is halted and no instruction executes (R31, R612). Safe: the
  spec's machine takes no step either; the reset that may follow is outside the model (log 16). -/
  | haltedInErrorMode
  deriving DecidableEq, Repr

/-- The reasons an instruction has no meaning. -/
inductive Refusal
  /-- Raised by an arm of `exec` whose instruction has no meaning yet. Safe: the model stops. -/
  | notModelled (mnemonic : String)
  /-- Raised by an alternate-space access naming an ASI the spec assigns to nothing (R103, log 26). Safe. -/
  | unassignedAsi
  /-- Raised by RDASR 15 with rd not 0 and by WRASR 1 to 15, reserved for future versions (R502, R511, log 25). Safe. -/
  | reservedAsr
  /-- Raised by a nonzero reserved field under `ReservedPolicy.refuse` only (R162, log 13). Safe. -/
  | reservedField
  /-- Raised by a coprocessor instruction that passes need_cp; unreachable while `Config.hasCp` is false (R590, log 27). Safe. -/
  | coprocessorUnspecified
  /-- Raised by STDFQ with a non-empty queue; unreachable while `Config.hasFq` is false (R233, log 32). Safe. -/
  | fpQueueUnspecified
  /-- Raised by an access to an implemented ASR; unreachable while `Config.asrSet` is empty (R502, R511, log 19). Safe. -/
  | asrUnspecified
  deriving DecidableEq, Repr

/-- The outcome of a step or of an instruction. -/
abbrev Result := Host.Outcome State Fault Refusal

/-- A PSR window that covers nothing (R712: initially count = 0). -/
def PsrShadow.empty : PsrShadow :=
  { count := 0, icc := none, ec := none, ef := none, pil := none, s := none, ps := none, et := none, cwp := none }

/-- A window that covers nothing. -/
def Shadow.empty {α : Type} : Shadow α := { count := 0, old := none }

/-- No hazard pending: the hazard state after reset, and, the quirks of R620 apart, after a trap entry (R90, R610, R714). -/
def Hazards.empty : Hazards :=
  { psr := .empty, wim := .empty, tbr := .empty, y := .empty, ldfsrCount := 0, fpop2Prev := false,
    prevCondBranch := false, prevJmpl := false, pilQuirks := [], fetchSpaceOpen := false }

/-- The machine right after reset (R90). PC, nPC, S, ET, EC, qne, error_mode and the hazard state are the spec's; every other
register is DESIGN CHOICE 0 (log 1); memory lists nothing (log 3); the inputs are empty (log 4, log 17). -/
def State.reset : State :=
  { globals := Vector.replicate 7 0
    windows := Vector.replicate (16 * Config.nwindows) 0
    pc := 0
    npc := 4
    psr := { icc := ⟨false, false, false, false⟩, ec := false, ef := false, pil := 0, s := true, ps := false, et := false,
             cwp := 0 }
    wim := 0
    tbr := { tba := 0, tt := 0 }
    y := 0
    f := Vector.replicate 32 0
    fsr := { rd := 0, tem := 0, ns := false, ftt := 0, qne := false, fcc := 0, aexc := 0, cexc := 0 }
    errorMode := false
    haz := .empty
    flushPending := []
    mem := []
    irl := []
    memFaults := []
    freeCount := 0 }

end Sys2Proof.Machine
end

