-- ==== Sys2Proof/Machine/Flags.lean ====
section
/-! DEFINITION. Every condition code computation: addition and subtraction (R340, R341), tagged forms (R346), logical (R302),
multiply and divide (R359, R366), and the tests of the four conditional families (R154). -/

namespace Sys2Proof.Machine

/-- The carry as a number. -/
def carryNat (c : Bool) : Nat := if c then 1 else 0

/-- n and z of a result (R41), with v and c as given. -/
def iccOfResult (res : Word) (v c : Bool) : Icc := { n := res.msb, z := res == 0, v := v, c := c }

/-- The sum of `add_cc` (R340). -/
def addResult (a b : Word) (cin : Bool) : Word := BitVec.ofNat 32 (a.toNat + b.toNat + carryNat cin)

/-- v of `add_cc` (R340): both operands have the same sign and the sum's differs. -/
def addOverflow (a b : Word) (cin : Bool) : Bool := a.msb == b.msb && (addResult a b cin).msb != a.msb

/-- The condition codes of `add_cc` (R340); c is the carry out of bit 31. -/
def addIcc (a b : Word) (cin : Bool) : Icc :=
  iccOfResult (addResult a b cin) (addOverflow a b cin) (decide (0x100000000 ≤ a.toNat + b.toNat + carryNat cin))

/-- The difference of `sub_cc` (R341). -/
def subResult (a b : Word) (cin : Bool) : Word := BitVec.ofInt 32 ((a.toNat : Int) - b.toNat - carryNat cin)

/-- v of `sub_cc` (R341): the operands' signs differ and the difference's differs from a's. -/
def subOverflow (a b : Word) (cin : Bool) : Bool := a.msb != b.msb && (subResult a b cin).msb != a.msb

/-- The condition codes of `sub_cc` (R341); c is the borrow. -/
def subIcc (a b : Word) (cin : Bool) : Icc :=
  iccOfResult (subResult a b cin) (subOverflow a b cin) (decide ((a.toNat : Int) - b.toNat - carryNat cin < 0))

/-- Bit 1 or bit 0 of either operand is nonzero (R346). -/
def tagBits (a b : Word) : Bool := a.extractLsb' 0 2 != 0 || b.extractLsb' 0 2 != 0

/-- `tag_ovf_add` (R346). -/
def tagOverflowAdd (a b : Word) : Bool := tagBits a b || addOverflow a b false

/-- `tag_ovf_sub` (R346). -/
def tagOverflowSub (a b : Word) : Bool := tagBits a b || subOverflow a b false

/-- `logic_cc` (R302), and the codes of UMULcc and SMULcc (R359, R360): v = c = 0. -/
def logicIcc (res : Word) : Icc := iccOfResult res false false

/-- The codes of UDIVcc and SDIVcc (R366): v is the overflow, c = 0. -/
def divIcc (q : Word) (ovf : Bool) : Icc := iccOfResult q ovf false

/-- The first operand of MULScc's addition (R355 step 2). -/
def mulStepOperand (icc : Icc) (rs1 : Word) : Word := BitVec.ofBool (icc.n ^^ icc.v) ++ rs1.extractLsb' 1 31

/-- Y after MULScc (R355 step 6). -/
def mulStepY (rs1 y : Word) : Word := rs1.extractLsb' 0 1 ++ y.extractLsb' 1 31

/-! ### Products and quotients (R356, R361 to R363) -/

/-- The unsigned product (R356). -/
def unsignedProduct (a b : Word) : DWord := BitVec.ofNat 64 (a.toNat * b.toNat)

/-- The signed product (R356). -/
def signedProduct (a b : Word) : DWord := BitVec.ofInt 64 (a.toInt * b.toInt)

/-- The high word of a product. -/
def highWord (p : DWord) : Word := p.extractLsb' 32 32

/-- The low word of a product. -/
def lowWord (p : DWord) : Word := p.extractLsb' 0 32

/-- The result of a divide: the quotient, whether it overflowed, and the remainder of the unsaturated quotient. -/
structure Quotient where
  q   : Word
  ovf : Bool
  rem : Word
  deriving DecidableEq, Repr

/-- `udiv_q` (R363). -/
def unsignedQuotient (y rs1 d : Word) : Quotient :=
  let dividend := (y ++ rs1 : DWord).toNat
  let q := dividend / d.toNat
  if 0xFFFFFFFF < q then { q := 0xFFFFFFFF, ovf := true, rem := 0 }
  else { q := BitVec.ofNat 32 q, ovf := false, rem := BitVec.ofNat 32 (dividend % d.toNat) }

/-- `sdiv_q` (R363): truncation toward zero. -/
def signedQuotient (y rs1 d : Word) : Quotient :=
  let dividend := (y ++ rs1 : DWord).toInt
  let q := dividend.tdiv d.toInt
  let rem := dividend.tmod d.toInt
  if 0x7FFFFFFF < q then { q := 0x7FFFFFFF, ovf := true, rem := 0 }
  else if q < -0x80000000 then { q := 0x80000000, ovf := true, rem := 0 }
  else if q = -0x80000000 ∧ rem ≠ 0 ∧ Config.divNegOvf = .methodB then { q := 0x80000000, ovf := true, rem := 0 }
  else { q := BitVec.ofInt 32 q, ovf := false, rem := BitVec.ofInt 32 rem }

/-! ### Conditions (R154)

The test with cond[3] = 1 is the negation of the test with cond[3] = 0 and the same cond[2:0]. -/

/-- Z or (N xor V). -/
def Icc.lessOrEqual (i : Icc) : Bool := i.z || (i.n ^^ i.v)
/-- N xor V. -/
def Icc.less (i : Icc) : Bool := i.n ^^ i.v
/-- C or Z. -/
def Icc.lessOrEqualUnsigned (i : Icc) : Bool := i.c || i.z

/-- fcc, or bp_CP_cc, is one of the listed values (R430, R450): E or 0 = 0, L or 1 = 1, G or 2 = 2, U or 3 = 3. -/
def ccIn (cc : BitVec 2) (values : List (BitVec 2)) : Bool := values.contains cc

end Sys2Proof.Machine
end

