-- ==== Sys2Proof/Machine/Ops.lean ====
section
/-! DEFINITION. The named operations over the state: registers through the window, state registers with their delayed-write
windows, memory, completion of an instruction, taking a trap and returning from one. -/

namespace Sys2Proof.Machine

/-! ### r registers (10_state.md R21 to R25) -/

/-- The word of `State.windows` that holds r[i], 8 ≤ i ≤ 31, of window `w` (R23): set s has its locals at 16 s and its ins at
16 s + 8, and the outs of w are the ins of w - 1, modulo NWINDOWS. -/
def State.slot (w : Nat) (i : Reg) : Nat := (16 * w + i.toNat + 16 * Config.nwindows - 16) % (16 * Config.nwindows)

/-- `rw(w, i)` of R23: register i read through window `w`; r[0] reads 0 (R25). -/
def State.rw (s : State) (w : Nat) (i : Reg) : Word :=
  if i = 0 then 0
  else if i.toNat < 8 then s.globals[(i.toNat - 1) % 7]'(Nat.mod_lt _ (by decide))
  else s.windows[State.slot w i]'(Nat.mod_lt _ (by decide))

/-- `rw(w, i) <- v`: a write to r[0] is discarded (R25). -/
def State.setRw (s : State) (w : Nat) (i : Reg) (v : Word) : State :=
  if i = 0 then s
  else if i.toNat < 8 then { s with globals := s.globals.set ((i.toNat - 1) % 7) v (Nat.mod_lt _ (by decide)) }
  else { s with windows := s.windows.set (State.slot w i) v (Nat.mod_lt _ (by decide)) }

/-- The window below `w`: SAVE and traps (R48). -/
def windowBelow (w : Nat) : Nat := (w + Config.nwindows - 1) % Config.nwindows

/-- The window above `w`: RESTORE and RETT (R48). -/
def windowAbove (w : Nat) : Nat := (w + 1) % Config.nwindows

/-! ### What an instruction reads of a state register (70_reset_and_hazards.md R712)

Inside the three-instruction window of a write that changed the field, the value read is free (item 2, log 6). -/

/-- A window still covers this instruction and its write changed the field. -/
def hidden {α : Type} (count : Nat) (old : Option α) : Bool := decide (0 < count) && old.isSome

/-- The field as read: `v`, or the free value where the window hides it. -/
def readField {α β : Type} (count : Nat) (old : Option α) (free v : β) : β := if hidden count old then free else v

/-- icc from four bits n, z, v, c (R41). -/
def iccOfBits (b : BitVec 4) : Icc := ⟨b.getLsbD 3, b.getLsbD 2, b.getLsbD 1, b.getLsbD 0⟩

/-- icc as four bits n, z, v, c (R41). -/
def Icc.bits (i : Icc) : BitVec 4 := BitVec.ofBool i.n ++ BitVec.ofBool i.z ++ BitVec.ofBool i.v ++ BitVec.ofBool i.c

/-- The implemented bits of WIM (R50). -/
def wimMask : Word := BitVec.ofNat 32 (2 ^ Config.nwindows - 1)

/-- icc as an instruction reads it. -/
def State.iccRead (s : State) : Icc :=
  readField s.haz.psr.count s.haz.psr.icc (iccOfBits (Config.freeIccRead s.freeCount)) s.psr.icc
/-- CWP as an instruction reads it. -/
def State.cwpRead (s : State) : Nat :=
  readField s.haz.psr.count s.haz.psr.cwp (Config.freeCwpRead s.freeCount % Config.nwindows) s.psr.cwp.toNat
/-- S as an instruction reads it. -/
def State.sRead (s : State) : Bool := readField s.haz.psr.count s.haz.psr.s (Config.freeSRead s.freeCount) s.psr.s
/-- PS as an instruction reads it. -/
def State.psRead (s : State) : Bool := readField s.haz.psr.count s.haz.psr.ps (Config.freePsRead s.freeCount) s.psr.ps
/-- ET as RETT and RDPSR read it. -/
def State.etRead (s : State) : Bool := readField s.haz.psr.count s.haz.psr.et (Config.freeEtRead s.freeCount) s.psr.et
/-- PIL as RDPSR reads it. -/
def State.pilRead (s : State) : BitVec 4 :=
  readField s.haz.psr.count s.haz.psr.pil (Config.freePilRead s.freeCount) s.psr.pil
/-- EF as an instruction reads it; 0 without an FPU (R44). -/
def State.efRead (s : State) : Bool :=
  Config.hasFpu && readField s.haz.psr.count s.haz.psr.ef (Config.freeEfRead s.freeCount) s.psr.ef
/-- EC as an instruction reads it; 0 without a coprocessor (R44). -/
def State.ecRead (s : State) : Bool :=
  Config.hasCp && readField s.haz.psr.count s.haz.psr.ec (Config.freeEcRead s.freeCount) s.psr.ec
/-- WIM as an instruction reads it; bits of unimplemented windows read 0 (R50). -/
def State.wimRead (s : State) : Word :=
  wimMask &&& readField s.haz.wim.count s.haz.wim.old (Config.freeWimRead s.freeCount) s.wim
/-- TBA as RDTBR reads it. -/
def State.tbaRead (s : State) : BitVec 20 :=
  readField s.haz.tbr.count s.haz.tbr.old (Config.freeTbaRead s.freeCount) s.tbr.tba
/-- Y as an instruction reads it. -/
def State.yRead (s : State) : Word := readField s.haz.y.count s.haz.y.old (Config.freeYRead s.freeCount) s.y

/-- `r[i]` through the current window (R22). -/
def State.r (s : State) (i : Reg) : Word := s.rw s.cwpRead i

/-- `r[i] <- v` through the current window (R22, R25). -/
def State.setR (s : State) (i : Reg) (v : Word) : State := s.setRw s.cwpRead i v

/-- The PSR as RDPSR delivers it (R40, R503): impl, ver, icc, 000000, EC, EF, PIL, S, PS, ET, CWP. -/
def State.psrWord (s : State) : Word :=
  Config.psrImpl ++ Config.psrVer ++ s.iccRead.bits ++ 0#6 ++ BitVec.ofBool s.ecRead ++ BitVec.ofBool s.efRead ++ s.pilRead
    ++ BitVec.ofBool s.sRead ++ BitVec.ofBool s.psRead ++ BitVec.ofBool s.etRead ++ BitVec.ofNat 5 s.cwpRead

/-- The TBR as RDTBR delivers it (R51, R505): TBA, tt, 0000. -/
def State.tbrWord (s : State) : Word := s.tbaRead ++ s.tbr.tt ++ 0#4

/-- The FSR as STFSR stores it (R63, R232). -/
def State.fsrWord (s : State) : Word :=
  s.fsr.rd ++ 0#2 ++ s.fsr.tem ++ BitVec.ofBool s.fsr.ns ++ 0#2 ++ Config.fsrVer ++ s.fsr.ftt ++ BitVec.ofBool s.fsr.qne
    ++ 0#1 ++ s.fsr.fcc ++ s.fsr.aexc ++ s.fsr.cexc

/-! ### Implicit writes of state registers (R712 item 1)

Inside the window of a write to the same register, what such a write leaves is free (log 7). -/

/-- The value a field holds after an implicit write of `v`. -/
def written {α : Type} (count : Nat) (free v : α) : α := if 0 < count then free else v

/-- `icc <- c`. -/
def State.setIcc (s : State) (c : Icc) : State :=
  { s with psr := { s.psr with icc := written s.haz.psr.count (iccOfBits (Config.freeIccWrite s.freeCount)) c } }
/-- `CWP <- w`, by SAVE, RESTORE, RETT. -/
def State.setCwp (s : State) (w : Nat) : State :=
  { s with psr := { s.psr with
      cwp := BitVec.ofNat 5 (written s.haz.psr.count (Config.freeCwpWrite s.freeCount % Config.nwindows) w) } }
/-- `Y <- v`, by a multiply, MULScc or a divide. -/
def State.setY (s : State) (v : Word) : State :=
  { s with y := written s.haz.y.count (Config.freeYWrite s.freeCount) v }

/-! ### Memory (20_memory.md R100 to R113) -/

/-- The byte at `a`; an unlisted address holds 0 (log 3). -/
def memRead : List Host.Cell → Nat → Byte
  | [], _ => 0
  | (b, v) :: m, a => if b = a then v else memRead m a

/-- Memory with the entry of `a` removed. -/
def memErase : List Host.Cell → Nat → List Host.Cell
  | [], _ => []
  | (b, v) :: m, a => if b = a then m else (b, v) :: memErase m a

/-- Memory with the entry `(a, v)` put in its place. -/
def memInsert : List Host.Cell → Nat → Byte → List Host.Cell
  | [], a, v => [(a, v)]
  | (b, x) :: m, a, v => if a < b then (a, v) :: (b, x) :: m else if a = b then (a, v) :: m else (b, x) :: memInsert m a v

/-- Memory after writing `v` at `a`, in canonical form: writing what an unlisted address reads as removes the entry. -/
def memWrite (m : List Host.Cell) (a : Nat) (v : Byte) : List Host.Cell :=
  if v = 0 then memErase m a else memInsert m a v

/-- The canonical form: addresses strictly rising and below 2^32, no listed byte 0. -/
def memWf : List Host.Cell → Bool
  | [] => true
  | [(a, v)] => decide (a < 0x100000000) && v != 0
  | (a, v) :: (b, w) :: m => decide (a < b) && v != 0 && memWf ((b, w) :: m)

/-- Memory after writing the bytes at `a`, `a + 1`, ... modulo 2^32 (R105). -/
def memWriteBytes : List Host.Cell → Word → List Byte → List Host.Cell
  | m, _, [] => m
  | m, a, b :: bs => memWriteBytes (memWrite m a.toNat b) (a + 1) bs

/-- The byte at address `a`. -/
def State.byte (s : State) (a : Word) : Byte := memRead s.mem a.toNat
/-- The halfword at `a`, big-endian (R104). -/
def State.half (s : State) (a : Word) : BitVec 16 := s.byte a ++ s.byte (a + 1)
/-- The word at `a`, big-endian (R104). -/
def State.word (s : State) (a : Word) : Word := s.byte a ++ s.byte (a + 1) ++ s.byte (a + 2) ++ s.byte (a + 3)
/-- The doubleword at `a`: the more significant word at the lower address (R104). -/
def State.dword (s : State) (a : Word) : DWord := s.word a ++ s.word (a + 4)

/-- The bytes of a halfword, most significant first (R105). -/
def halfBytes (v : BitVec 16) : List Byte := [v.extractLsb' 8 8, v.extractLsb' 0 8]
/-- The bytes of a word, most significant first (R105). -/
def wordBytes (v : Word) : List Byte :=
  [v.extractLsb' 24 8, v.extractLsb' 16 8, v.extractLsb' 8 8, v.extractLsb' 0 8]
/-- The bytes of a doubleword, most significant first (R105). -/
def dwordBytes (v : DWord) : List Byte := wordBytes (v.extractLsb' 32 32) ++ wordBytes (v.extractLsb' 0 32)

/-! ### Instruction-fetch coherence (R125) -/

/-- The doubleword a byte address lies in: bits 2:0 cleared. -/
def doublewordOf (a : Word) : Nat := (a &&& 0xFFFFFFF8#32).toNat

/-- The status of doubleword `d`. -/
def flushFind : List (Nat × FlushStatus) → Nat → Option FlushStatus
  | [], _ => none
  | (b, f) :: l, d => if b = d then some f else flushFind l d

/-- The list with `d` given status `f`, doubleword addresses rising. -/
def flushSet : List (Nat × FlushStatus) → Nat → FlushStatus → List (Nat × FlushStatus)
  | [], d, f => [(d, f)]
  | (b, x) :: l, d, f => if d < b then (d, f) :: (b, x) :: l else if d = b then (d, f) :: l else (b, x) :: flushSet l d f

/-- The list without `d`. -/
def flushErase : List (Nat × FlushStatus) → Nat → List (Nat × FlushStatus)
  | [], _ => []
  | (b, x) :: l, d => if b = d then l else (b, x) :: flushErase l d

/-- One completed instruction: each countdown falls by one and an entry reaching 0 goes (R714). -/
def flushAge : List (Nat × FlushStatus) → List (Nat × FlushStatus)
  | [] => []
  | (b, .dirty) :: l => (b, .dirty) :: flushAge l
  | (b, .counting k) :: l => if k ≤ 1 then flushAge l else (b, .counting (k - 1)) :: flushAge l

/-- `MemWrite` past its fault check: store the bytes, mark the doubleword (R105, R125). -/
def State.store (s : State) (a : Word) (bs : List Byte) : State :=
  { s with mem := memWriteBytes s.mem a bs, flushPending := flushSet s.flushPending (doublewordOf a) .dirty }

/-! ### Completion of an instruction (R714, R32) -/

/-- One instruction less in the window; at 0 it is empty. -/
def Shadow.age {α : Type} (h : Shadow α) : Shadow α := if h.count ≤ 1 then .empty else { h with count := h.count - 1 }

/-- One instruction less in the PSR window. -/
def PsrShadow.age (h : PsrShadow) : PsrShadow := if h.count ≤ 1 then .empty else { h with count := h.count - 1 }

/-- One step less of a quirk; after the third it is over (R620). -/
def PilQuirk.age (q : PilQuirk) : Option PilQuirk := if q.count ≤ 1 then none else some { q with count := q.count - 1 }

/-- One step less of every open quirk (R620). -/
def Hazards.agedQuirks (h : Hazards) : List PilQuirk := h.pilQuirks.filterMap PilQuirk.age

/-- The hazard state after an instruction that sets none of it itself (R714). -/
def Hazards.age (h : Hazards) : Hazards :=
  { psr := h.psr.age, wim := h.wim.age, tbr := h.tbr.age, y := h.y.age, ldfsrCount := h.ldfsrCount - 1, fpop2Prev := false,
    prevCondBranch := false, prevJmpl := false, pilQuirks := h.agedQuirks, fetchSpaceOpen := h.fetchSpaceOpen }

/-- The aging every completing instruction does (R714). -/
def State.retire (s : State) : State := { s with haz := s.haz.age, flushPending := flushAge s.flushPending }

/-- `advance` (R32). -/
def State.advance (s : State) : State := { s with pc := s.npc, npc := s.npc + 4 }

/-- A delayed transfer to `target` (R33). -/
def State.transfer (s : State) (target : Word) : State := { s with pc := s.npc, npc := target }

/-- The instruction's writes are done: age, advance (R11, R31). -/
def finish (s : State) : Result := .next s.retire.advance

/-- Write r[rd] and complete. -/
def writeReg (s : State) (rd : Reg) (v : Word) : Result := finish (s.setR rd v)

/-- Write r[rd] and icc and complete. -/
def writeRegCc (s : State) (rd : Reg) (v : Word) (c : Icc) : Result := finish ((s.setR rd v).setIcc c)

/-! ### Traps (60_exceptions.md R600 to R612) -/

/-- The traps of R603; reset is no trap entry (R613). -/
inductive Trap
  | dataStoreError | instructionAccessError | rRegisterAccessError | instructionAccessException | privilegedInstruction
  | illegalInstruction | fpDisabled | cpDisabled | unimplementedFlush | windowOverflow | windowUnderflow
  | memAddressNotAligned | fpException | cpException | dataAccessError | dataAccessException | tagOverflow | divisionByZero
  | trapInstruction (n : BitVec 7)
  | interrupt (level : BitVec 4)
  deriving DecidableEq, Repr

/-- `TT`: the trap type codes of R604 (log 20). -/
def trapType : Trap → BitVec 8
  | .dataStoreError => 0x2B
  | .instructionAccessError => 0x21
  | .rRegisterAccessError => 0x20
  | .instructionAccessException => 0x01
  | .privilegedInstruction => 0x03
  | .illegalInstruction => 0x02
  | .fpDisabled => 0x04
  | .cpDisabled => 0x24
  | .unimplementedFlush => 0x25
  | .windowOverflow => 0x05
  | .windowUnderflow => 0x06
  | .memAddressNotAligned => 0x07
  | .fpException => 0x08
  | .cpException => 0x28
  | .dataAccessError => 0x29
  | .dataAccessException => 0x09
  | .tagOverflow => 0x0A
  | .divisionByZero => 0x2A
  | .trapInstruction n => 0b1#1 ++ n
  | .interrupt level => 0b0001#4 ++ level

/-- A value a trap uses inside a delayed-write window: the old one where the write changed it and the draw says so (R712 items
4 and 5, log 8). -/
def drawOld {α : Type} (count : Nat) (old : Option α) (draw : Bool) (new : α) : α :=
  if 0 < count ∧ draw = true then old.getD new else new

/-- ET as `raise` uses it: a free bit where a WRPSR within three instructions changed it (R712). -/
def State.trapEt (s : State) : Bool := readField s.haz.psr.count s.haz.psr.et (Config.drawTrapEt s.freeCount) s.psr.et
/-- S as a trap copies it into PS (R712 item 4). -/
def State.trapS (s : State) : Bool := drawOld s.haz.psr.count s.haz.psr.s (Config.drawTrapOldS s.freeCount) s.psr.s
/-- CWP as a trap decrements it (R712 item 4). -/
def State.trapCwp (s : State) : Nat :=
  (drawOld s.haz.psr.count s.haz.psr.cwp (Config.drawTrapOldCwp s.freeCount) s.psr.cwp).toNat
/-- TBA as a trap forms the vector from it (R712 item 5). -/
def State.trapTba (s : State) : BitVec 20 :=
  drawOld s.haz.tbr.count s.haz.tbr.old (Config.drawTrapOldTba s.freeCount) s.tbr.tba

/-- The address of the trap table's entry for `tt` (R611). -/
def trapVector (tba : BitVec 20) (tt : BitVec 8) : Word := tba ++ tt ++ 0#4

/-- TAKING A TRAP: `trap_entry(tt, PC, nPC)` of R610. PS gets S, S becomes 1, ET 0, CWP falls by one without a WIM test; PC and
nPC go to r[17] and r[18] of the new window; TBR.tt gets the type; PC goes to the vector. The hazards are cleared
(R712 item 6, R713, R714); `flushPending` stays (R714). DEDUCED: a PIL and ET quirk goes on through the entry, which is one of its
three steps: R620 ends it after three steps and R714 does not list it among what the entry clears (log 18). -/
def State.trapEntry (s : State) (tt : BitVec 8) : State :=
  let w := windowBelow s.trapCwp
  let vector := trapVector s.trapTba tt
  let s' := (s.setRw w 17 s.pc).setRw w 18 s.npc
  { s' with
    psr := { s.psr with s := true, ps := s.trapS, et := false, cwp := BitVec.ofNat 5 w }
    tbr := { s.tbr with tt := tt }
    pc := vector
    npc := vector + 4
    haz := { Hazards.empty with pilQuirks := s.haz.agedQuirks } }

/-- Entering error_mode other than through RETT (R612): nothing else changes, but TBR.tt holds no known value (log 16). -/
def State.enterErrorMode (s : State) : State :=
  { s with errorMode := true, tbr := { s.tbr with tt := Config.freeErrorTt s.freeCount } }

/-- RETT's entry to error_mode (R472, R612): TBR.tt tells why. -/
def State.rettErrorMode (s : State) (t : Trap) : State :=
  { s with errorMode := true, tbr := { s.tbr with tt := trapType t } }

/-- `raise T` (R601): trap entry with traps enabled, error_mode with traps disabled. -/
def raise (t : Trap) (s : State) : Result :=
  if s.trapEt then .next (s.trapEntry (trapType t)) else .next s.enterErrorMode

/-- `raise T` out of RETT (R601, R612): as `raise`, but error_mode is entered with the type in TBR.tt. -/
def raiseFromRett (t : Trap) (s : State) : Result :=
  if s.trapEt then .next (s.trapEntry (trapType t)) else .next (s.rettErrorMode t)

/-- `if c then raise T`, else go on. -/
def raiseIf (c : Bool) (t : Trap) (s : State) (k : Result) : Result := if c then raise t s else k

/-- THE RETURN FROM A TRAP: what RETT does when it does not trap (R472, R615): CWP to the window above, S from PS, ET to 1, a
delayed transfer to `target`. Inside a WRPSR window the three written fields are free (R712 item 1, log 7). -/
def State.returnFromTrap (s : State) (newCwp : Nat) (target : Word) : State :=
  let s' := s.setCwp newCwp
  ({ s' with
    psr := { s'.psr with
      s := written s.haz.psr.count (Config.freeSWrite s.freeCount) s.psRead
      et := written s.haz.psr.count (Config.freeEtWrite s.freeCount) true } }).transfer target

/-- `need_supervisor` (R640). -/
def needSupervisor (s : State) (k : Result) : Result := raiseIf (!s.sRead) .privilegedInstruction s k
/-- `need_fpu` (R606). -/
def needFpu (s : State) (k : Result) : Result := raiseIf (!s.efRead) .fpDisabled s k
/-- `need_cp` (R606). -/
def needCp (s : State) (k : Result) : Result := raiseIf (!s.ecRead) .cpDisabled s k

/-- fp_exception with FSR.ftt as given, nothing else of the FSR touched (R540 steps 3 and 4, R214, R231, R233). -/
def fpTrap (ftt : BitVec 3) (s : State) : Result := raise .fpException { s with fsr := { s.fsr with ftt := ftt } }

/-- A value or field with a nonzero reserved part: refused under `ReservedPolicy.refuse`, else ignored (R162, log 13). -/
def reserved (nonzero : Bool) (k : Result) : Result :=
  if nonzero && Config.reservedPolicy == .refuse then .refused .reservedField else k

/-! ### Access faults (20_memory.md R112, R113) -/

/-- `e` answers an access of `n` bytes at `a` (the bytes wrap past the top of the address space nowhere: accesses are aligned). An
entry with a size answers accesses of that size only (R6, R112). -/
def FaultEntry.covers (e : FaultEntry) (asi : Asi) (a : Word) (n : Nat) (kind : AccessKind) : Bool :=
  e.asi == asi && e.kind == kind && (e.size.isNone || e.size == some n)
    && decide (e.first.toNat ≤ a.toNat + n - 1) && decide (a.toNat ≤ e.last.toNat)
    && !(e.fault == .storeError && (kind == .fetch || kind == .load))

/-- `MemFault(asi, a, n, kind)`: the first entry of the fault map that answers; store_error is no answer for a fetch or a load
(R112, log 31). -/
def State.memFault (s : State) (asi : Asi) (a : Word) (n : Nat) (kind : AccessKind) : Option AccessFault :=
  (s.memFaults.find? (fun e => e.covers asi a n kind)).map FaultEntry.fault

/-- The trap an access fault of a load, store or atomic names (R112). -/
def dataTrap : AccessFault → Trap
  | .exception => .dataAccessException
  | .error => .dataAccessError
  | .storeError => .dataStoreError

/-- The trap an access fault of a fetch names (R112); store_error does not occur (`State.memFault`). -/
def fetchTrap : AccessFault → Trap
  | .error => .instructionAccessError
  | _ => .instructionAccessException

/-- The four spaces the spec assigns, all naming one byte array (R103). -/
def asiAssigned (asi : Asi) : Bool :=
  asi == Config.asiUserInstr || asi == Config.asiSuperInstr || asi == Config.asiUserData || asi == Config.asiSuperData

/-- An access of `n` bytes: refused in an unassigned space (R103), `onFault` where MemFault names a trap, else `k`. -/
def access (s : State) (asi : Asi) (a : Word) (n : Nat) (kind : AccessKind) (onFault : AccessFault → Result) (k : Result) :
    Result :=
  if asiAssigned asi then
    match s.memFault asi a n kind with
    | some f => onFault f
    | none => k
  else .refused .unassignedAsi

/-- A data access whose fault leaves everything as it was (R200). -/
def accessOrTrap (s : State) (asi : Asi) (a : Word) (n : Nat) (kind : AccessKind) (k : Result) : Result :=
  access s asi a n kind (fun f => raise (dataTrap f) s) k

/-- The first word of a faulting doubleword access was accessed: the first word alone does not fault and the draw says so
(R113, log 28). -/
def State.firstHalfDone (s : State) (asi : Asi) (a : Word) (kind : AccessKind) : Bool :=
  (s.memFault asi a 4 kind).isNone && Config.drawFirstHalf s.freeCount

end Sys2Proof.Machine
end

