-- ==== Sys2Proof/Machine/Operands.lean ====
section
/-! DEFINITION. Every operand form: second operands, shift counts, effective addresses, displacements, address spaces, and the f
register operands of one, two and four words (spec/30_encoding.md R146 to R148, R101, R320, R473, R542). -/

namespace Sys2Proof.Machine

/-- `op2` (R147): r[rs2], or the sign-extended immediate. -/
def State.op2 (s : State) : RegOrImm → Word
  | .reg rs2 => s.r rs2
  | .imm simm13 => simm13.signExtend 32

/-- `ea` (R148): `(r[rs1] + op2) mod 2^32`. -/
def State.ea (s : State) (rs1 : Reg) (o : RegOrImm) : Word := s.r rs1 + s.op2 o

/-- The effective address of an alternate-space form, i = 0 (R148). -/
def State.eaAlt (s : State) (rs1 rs2 : Reg) : Word := s.r rs1 + s.r rs2

/-- The shift count, 0 to 31 (R320). -/
def State.shiftCount (s : State) : ShiftOperand → Nat
  | .reg rs2 => ((s.r rs2).extractLsb' 0 5).toNat
  | .cnt shcnt => shcnt.toNat

/-- The low seven bits of Ticc's operand sum (R473). -/
def State.trapNumber (s : State) (rs1 : Reg) : TrapOperand → BitVec 7
  | .reg rs2 => (s.r rs1 + s.r rs2).extractLsb' 0 7
  | .imm imm7 => (s.r rs1 + imm7.zeroExtend 32).extractLsb' 0 7

/-- `dasi` (R101): the data space of the current mode. -/
def State.dasi (s : State) : Asi := if s.sRead then Config.asiSuperData else Config.asiUserData

/-- `ea` is no multiple of `n`, for n = 1, 2, 4, 8 (R109). -/
def misaligned (n : Nat) (ea : Word) : Bool := ea.toNat % n != 0

/-- The target of a branch (R410): PC + 4 × sext(disp22). -/
def branchTarget (pc : Word) (disp22 : BitVec 22) : Word := pc + (disp22 ++ 0b00#2).signExtend 32

/-- The target of CALL (R470): PC + disp30 ‖ 00. -/
def callTarget (pc : Word) (disp30 : BitVec 30) : Word := pc + (disp30 ++ 0b00#2)

/-- The even register of a doubleword pair (R206, R542). -/
def evenReg (rd : Reg) : Reg := rd &&& 0b11110#5
/-- The odd register of a doubleword pair. -/
def oddReg (rd : Reg) : Reg := rd ||| 0b00001#5
/-- rd names the odd register of a pair. -/
def isOdd (rd : Reg) : Bool := rd.getLsbD 0

/-! ### f registers (R60, R61, R542) -/

/-- The formats of FPop operands (R541); an integer word is held as a single. -/
inductive FpFormat | single | double | quad
  deriving DecidableEq, Repr

/-- f[i]. -/
def State.fr (s : State) (i : Reg) : Word := s.f[i.toNat]'(i.isLt)

/-- `f[i] <- v`. -/
def State.setF (s : State) (i : Reg) (v : Word) : State := { s with f := s.f.set i.toNat v i.isLt }

/-- The k-th register of the aligned quadruple that holds `i`. -/
def quadReg (i : Reg) (k : BitVec 5) : Reg := (i &&& 0b11100#5) ||| k

/-- D(n): the aligned pair (R542). -/
def State.frD (s : State) (i : Reg) : DWord := s.fr (evenReg i) ++ s.fr (oddReg i)
/-- Q(n): the aligned quadruple (R542). -/
def State.frQ (s : State) (i : Reg) : BitVec 128 :=
  s.fr (quadReg i 0) ++ s.fr (quadReg i 1) ++ s.fr (quadReg i 2) ++ s.fr (quadReg i 3)
/-- `D(n) <- v`. -/
def State.setFD (s : State) (i : Reg) (v : DWord) : State :=
  (s.setF (evenReg i) (v.extractLsb' 32 32)).setF (oddReg i) (v.extractLsb' 0 32)
/-- `Q(n) <- v`. -/
def State.setFQ (s : State) (i : Reg) (v : BitVec 128) : State :=
  (((s.setF (quadReg i 0) (v.extractLsb' 96 32)).setF (quadReg i 1) (v.extractLsb' 64 32)).setF (quadReg i 2)
    (v.extractLsb' 32 32)).setF (quadReg i 3) (v.extractLsb' 0 32)

/-- The bits of an operand, as a number (R542). -/
def State.fpOperand (s : State) (fmt : FpFormat) (i : Reg) : Nat :=
  match fmt with
  | .single => (s.fr i).toNat
  | .double => (s.frD i).toNat
  | .quad => (s.frQ i).toNat

/-- Write result bits to the destination of the format (R542). -/
def State.setFp (s : State) (fmt : FpFormat) (i : Reg) (bits : Nat) : State :=
  match fmt with
  | .single => s.setF i (BitVec.ofNat 32 bits)
  | .double => s.setFD i (BitVec.ofNat 64 bits)
  | .quad => s.setFQ i (BitVec.ofNat 128 bits)

/-- The register number has a nonzero reserved bit for the format (R62, R542). -/
def fpMisaligned (fmt : FpFormat) (i : Reg) : Bool :=
  match fmt with
  | .single => false
  | .double => i.extractLsb' 0 1 != 0
  | .quad => i.extractLsb' 0 2 != 0

end Sys2Proof.Machine
end

