-- ==== Sys2Proof/Machine/Arith.lean ====
section
/-! DEFINITION. Integer arithmetic (spec/42_arithmetic.md R340 to R371). -/

namespace Sys2Proof.Machine

/-- MULScc (R355): every read before every write. -/
def mulStep (s : State) (rd : Reg) (a b : Word) : Result :=
  let op1 := mulStepOperand s.iccRead a
  let add2 := if s.yRead.getLsbD 0 then b else 0
  finish (((s.setR rd (addResult op1 add2 false)).setIcc (addIcc op1 add2 false)).setY (mulStepY a s.yRead))

/-- UMUL and SMUL (R357, R358): the high word to Y, the low word to r[rd]. -/
def writeProduct (s : State) (rd : Reg) (p : DWord) : Result := finish ((s.setR rd (lowWord p)).setY (highWord p))

/-- UMULcc and SMULcc (R359, R360). -/
def writeProductCc (s : State) (rd : Reg) (p : DWord) : Result :=
  finish (((s.setR rd (lowWord p)).setIcc (logicIcc (lowWord p))).setY (highWord p))

/-- Y after a divide that completes (R371, log 15). -/
def State.divideY (s : State) (q : Quotient) : State :=
  match Config.divY with
  | .preserve => s
  | .remainder => s.setY (if q.ovf then Config.freeYDivide s.freeCount else q.rem)
  | .any => s.setY (Config.freeYDivide s.freeCount)

/-- A divide by `d` with quotient `q` (R362 to R367). -/
def divide (s : State) (rd : Reg) (d : Word) (q : Quotient) (cc : Bool) : Result :=
  raiseIf (d == 0) .divisionByZero s <|
    finish ((if cc then (s.setR rd q.q).setIcc (divIcc q.q q.ovf) else s.setR rd q.q).divideY q)

/-- ADD (R343). -/
def execAdd (rd rs1 : Reg) (o : RegOrImm) (s : State) : Result := writeReg s rd (addResult (s.r rs1) (s.op2 o) false)

/-- ADDcc (R342). -/
def execAddcc (rd rs1 : Reg) (o : RegOrImm) (s : State) : Result :=
  writeRegCc s rd (addResult (s.r rs1) (s.op2 o) false) (addIcc (s.r rs1) (s.op2 o) false)

/-- ADDX (R344). -/
def execAddx (rd rs1 : Reg) (o : RegOrImm) (s : State) : Result := writeReg s rd (addResult (s.r rs1) (s.op2 o) s.iccRead.c)

/-- ADDXcc (R345). -/
def execAddxcc (rd rs1 : Reg) (o : RegOrImm) (s : State) : Result :=
  writeRegCc s rd (addResult (s.r rs1) (s.op2 o) s.iccRead.c) (addIcc (s.r rs1) (s.op2 o) s.iccRead.c)

/-- TADDcc (R347). -/
def execTaddcc (rd rs1 : Reg) (o : RegOrImm) (s : State) : Result :=
  writeRegCc s rd (addResult (s.r rs1) (s.op2 o) false) { addIcc (s.r rs1) (s.op2 o) false with v := tagOverflowAdd (s.r rs1) (s.op2 o) }

/-- TADDccTV (R348). -/
def execTaddcctv (rd rs1 : Reg) (o : RegOrImm) (s : State) : Result :=
  raiseIf (tagOverflowAdd (s.r rs1) (s.op2 o)) .tagOverflow s <|
    writeRegCc s rd (addResult (s.r rs1) (s.op2 o) false) { addIcc (s.r rs1) (s.op2 o) false with v := false }

/-- SUB (R349). -/
def execSub (rd rs1 : Reg) (o : RegOrImm) (s : State) : Result := writeReg s rd (subResult (s.r rs1) (s.op2 o) false)

/-- SUBcc (R350). -/
def execSubcc (rd rs1 : Reg) (o : RegOrImm) (s : State) : Result :=
  writeRegCc s rd (subResult (s.r rs1) (s.op2 o) false) (subIcc (s.r rs1) (s.op2 o) false)

/-- SUBX (R351). -/
def execSubx (rd rs1 : Reg) (o : RegOrImm) (s : State) : Result := writeReg s rd (subResult (s.r rs1) (s.op2 o) s.iccRead.c)

/-- SUBXcc (R352). -/
def execSubxcc (rd rs1 : Reg) (o : RegOrImm) (s : State) : Result :=
  writeRegCc s rd (subResult (s.r rs1) (s.op2 o) s.iccRead.c) (subIcc (s.r rs1) (s.op2 o) s.iccRead.c)

/-- TSUBcc (R353). -/
def execTsubcc (rd rs1 : Reg) (o : RegOrImm) (s : State) : Result :=
  writeRegCc s rd (subResult (s.r rs1) (s.op2 o) false) { subIcc (s.r rs1) (s.op2 o) false with v := tagOverflowSub (s.r rs1) (s.op2 o) }

/-- TSUBccTV (R354). -/
def execTsubcctv (rd rs1 : Reg) (o : RegOrImm) (s : State) : Result :=
  raiseIf (tagOverflowSub (s.r rs1) (s.op2 o)) .tagOverflow s <|
    writeRegCc s rd (subResult (s.r rs1) (s.op2 o) false) { subIcc (s.r rs1) (s.op2 o) false with v := false }

/-- MULScc (R355). -/
def execMulscc (rd rs1 : Reg) (o : RegOrImm) (s : State) : Result := mulStep s rd (s.r rs1) (s.op2 o)

/-- UMUL (R357). -/
def execUmul (rd rs1 : Reg) (o : RegOrImm) (s : State) : Result := writeProduct s rd (unsignedProduct (s.r rs1) (s.op2 o))

/-- SMUL (R358). -/
def execSmul (rd rs1 : Reg) (o : RegOrImm) (s : State) : Result := writeProduct s rd (signedProduct (s.r rs1) (s.op2 o))

/-- UMULcc (R359). -/
def execUmulcc (rd rs1 : Reg) (o : RegOrImm) (s : State) : Result := writeProductCc s rd (unsignedProduct (s.r rs1) (s.op2 o))

/-- SMULcc (R360). -/
def execSmulcc (rd rs1 : Reg) (o : RegOrImm) (s : State) : Result := writeProductCc s rd (signedProduct (s.r rs1) (s.op2 o))

/-- UDIV (R364). -/
def execUdiv (rd rs1 : Reg) (o : RegOrImm) (s : State) : Result :=
  divide s rd (s.op2 o) (unsignedQuotient s.yRead (s.r rs1) (s.op2 o)) false

/-- SDIV (R365). -/
def execSdiv (rd rs1 : Reg) (o : RegOrImm) (s : State) : Result :=
  divide s rd (s.op2 o) (signedQuotient s.yRead (s.r rs1) (s.op2 o)) false

/-- UDIVcc (R366). -/
def execUdivcc (rd rs1 : Reg) (o : RegOrImm) (s : State) : Result :=
  divide s rd (s.op2 o) (unsignedQuotient s.yRead (s.r rs1) (s.op2 o)) true

/-- SDIVcc (R367). -/
def execSdivcc (rd rs1 : Reg) (o : RegOrImm) (s : State) : Result :=
  divide s rd (s.op2 o) (signedQuotient s.yRead (s.r rs1) (s.op2 o)) true

end Sys2Proof.Machine
end

