-- ==== Sys2Proof/Machine/Load.lean ====
section
/-! DEFINITION. Load integer, floating-point and coprocessor (spec/40_load_store.md R200 to R218, R245 to R250). -/

namespace Sys2Proof.Machine

/-- The front of every alternate-space form (R207, R227): privileged, and i must be 0. -/
def alternate (s : State) (i : Bool) (k : Result) : Result := needSupervisor s (raiseIf i .illegalInstruction s k)

/-- A byte load, extended as the instruction says (R203, R205). -/
def loadByte (s : State) (asi : Asi) (ea : Word) (rd : Reg) (extend : Byte → Word) : Result :=
  accessOrTrap s asi ea 1 .load (writeReg s rd (extend (s.byte ea)))

/-- A halfword load (R204, R208). -/
def loadHalf (s : State) (asi : Asi) (ea : Word) (rd : Reg) (extend : BitVec 16 → Word) : Result :=
  raiseIf (misaligned 2 ea) .memAddressNotAligned s <|
    accessOrTrap s asi ea 2 .load (writeReg s rd (extend (s.half ea)))

/-- A word load (R209). -/
def loadWord (s : State) (asi : Asi) (ea : Word) (rd : Reg) : Result :=
  raiseIf (misaligned 4 ea) .memAddressNotAligned s <|
    accessOrTrap s asi ea 4 .load (writeReg s rd (s.word ea))

/-- A doubleword load (R206). A fault of the second word alone may leave the even register loaded (R113, log 28). -/
def loadDouble (s : State) (asi : Asi) (ea : Word) (rd : Reg) : Result :=
  raiseIf (Config.oddRdTraps && isOdd rd) .illegalInstruction s <|
    raiseIf (misaligned 8 ea) .memAddressNotAligned s <|
      access s asi ea 8 .load
        (fun f => raise (dataTrap f) (if s.firstHalfDone asi ea .load then s.setR (evenReg rd) (s.word ea) else s))
        (finish ((s.setR (evenReg rd) (s.word ea)).setR (oddReg rd) (s.word (ea + 4))))

/-- The f registers when an LDF or LDDF takes a data access trap, data_access_exception or data_access_error: unchanged, or set to
a predetermined constant (R113, R213, log 29). -/
def State.faultedLoad (s : State) (set : State → State) : State := if Config.drawFaultedLoad s.freeCount then set s else s

/-- fp_exception with ftt = 6 where the f register number has a nonzero reserved bit (R62, R214). -/
def fpRegister (fmt : FpFormat) (rd : Reg) (s : State) (k : Result) : Result :=
  if fpMisaligned fmt rd && Config.invalidFpRegTraps then fpTrap 6 s else k

/-- The fields LDFSR writes (R215); ver, ftt and qne stay. -/
def State.loadFsr (s : State) (w : Word) : State :=
  { s with fsr := { s.fsr with
      rd := w.extractLsb' 30 2, tem := w.extractLsb' 23 5, ns := w.getLsbD 22, fcc := w.extractLsb' 10 2
      aexc := w.extractLsb' 5 5, cexc := w.extractLsb' 0 5 } }

/-- The LDFSR to FBfcc window opens (R713). -/
def State.openLdfsr (s : State) : State := { s with haz := { s.haz with ldfsrCount := 3 } }

/-- A coprocessor load or store up to where it depends on the coprocessor (R216 to R218, R234 to R237). -/
def coprocessorAccess (s : State) (n : Nat) (ea : Word) : Result :=
  needCp s (raiseIf (misaligned n ea) .memAddressNotAligned s (.refused .coprocessorUnspecified))

/-- LDSB (R203). -/
def execLdsb (rd rs1 : Reg) (o : RegOrImm) (s : State) : Result := loadByte s s.dasi (s.ea rs1 o) rd (BitVec.signExtend 32)

/-- LDSH (R204). -/
def execLdsh (rd rs1 : Reg) (o : RegOrImm) (s : State) : Result := loadHalf s s.dasi (s.ea rs1 o) rd (BitVec.signExtend 32)

/-- LDUB (R205). -/
def execLdub (rd rs1 : Reg) (o : RegOrImm) (s : State) : Result := loadByte s s.dasi (s.ea rs1 o) rd (BitVec.zeroExtend 32)

/-- LDUH (R208). -/
def execLduh (rd rs1 : Reg) (o : RegOrImm) (s : State) : Result := loadHalf s s.dasi (s.ea rs1 o) rd (BitVec.zeroExtend 32)

/-- LD (R209). -/
def execLd (rd rs1 : Reg) (o : RegOrImm) (s : State) : Result := loadWord s s.dasi (s.ea rs1 o) rd

/-- LDD (R206). -/
def execLdd (rd rs1 : Reg) (o : RegOrImm) (s : State) : Result := loadDouble s s.dasi (s.ea rs1 o) rd

/-- LDSBA (R245). -/
def execLdsba (rd rs1 : Reg) (i : Bool) (asi : Asi) (rs2 : Reg) (s : State) : Result :=
  alternate s i (loadByte s asi (s.eaAlt rs1 rs2) rd (BitVec.signExtend 32))

/-- LDSHA (R246). -/
def execLdsha (rd rs1 : Reg) (i : Bool) (asi : Asi) (rs2 : Reg) (s : State) : Result :=
  alternate s i (loadHalf s asi (s.eaAlt rs1 rs2) rd (BitVec.signExtend 32))

/-- LDUBA (R247). -/
def execLduba (rd rs1 : Reg) (i : Bool) (asi : Asi) (rs2 : Reg) (s : State) : Result :=
  alternate s i (loadByte s asi (s.eaAlt rs1 rs2) rd (BitVec.zeroExtend 32))

/-- LDUHA (R248). -/
def execLduha (rd rs1 : Reg) (i : Bool) (asi : Asi) (rs2 : Reg) (s : State) : Result :=
  alternate s i (loadHalf s asi (s.eaAlt rs1 rs2) rd (BitVec.zeroExtend 32))

/-- LDA (R249). -/
def execLda (rd rs1 : Reg) (i : Bool) (asi : Asi) (rs2 : Reg) (s : State) : Result :=
  alternate s i (loadWord s asi (s.eaAlt rs1 rs2) rd)

/-- LDDA (R250). -/
def execLdda (rd rs1 : Reg) (i : Bool) (asi : Asi) (rs2 : Reg) (s : State) : Result :=
  alternate s i (loadDouble s asi (s.eaAlt rs1 rs2) rd)

/-- LDF (R213). -/
def execLdf (rd rs1 : Reg) (o : RegOrImm) (s : State) : Result :=
  needFpu s <| raiseIf (misaligned 4 (s.ea rs1 o)) .memAddressNotAligned s <|
    access s s.dasi (s.ea rs1 o) 4 .load (fun f => raise (dataTrap f) (s.faultedLoad (fun t => t.setF rd Config.faultedSingle)))
      (finish (s.setF rd (s.word (s.ea rs1 o))))

/-- LDDF (R214). -/
def execLddf (rd rs1 : Reg) (o : RegOrImm) (s : State) : Result :=
  needFpu s <| raiseIf (misaligned 8 (s.ea rs1 o)) .memAddressNotAligned s <| fpRegister .double rd s <|
    access s s.dasi (s.ea rs1 o) 8 .load (fun f => raise (dataTrap f) (s.faultedLoad (fun t => t.setFD rd Config.faultedDouble)))
      (finish (s.setFD rd (s.dword (s.ea rs1 o))))

/-- LDFSR (R215). DESIGN CHOICE: an access that takes a data access trap leaves the FSR as it was; R113 names LDFSR beside LDF and
LDDF but speaks of the destination f registers, which LDFSR does not have (log 29). -/
def execLdfsr (_rd rs1 : Reg) (o : RegOrImm) (s : State) : Result :=
  needFpu s <| raiseIf (misaligned 4 (s.ea rs1 o)) .memAddressNotAligned s <|
    accessOrTrap s s.dasi (s.ea rs1 o) 4 .load <|
      reserved (s.word (s.ea rs1 o) &&& 0x30301000#32 != 0) <|
        .next (s.loadFsr (s.word (s.ea rs1 o))).retire.advance.openLdfsr

/-- LDC (R216). -/
def execLdc (_rd rs1 : Reg) (o : RegOrImm) (s : State) : Result := coprocessorAccess s 4 (s.ea rs1 o)

/-- LDDC (R217). -/
def execLddc (_rd rs1 : Reg) (o : RegOrImm) (s : State) : Result := coprocessorAccess s 8 (s.ea rs1 o)

/-- LDCSR (R218). -/
def execLdcsr (_rd rs1 : Reg) (o : RegOrImm) (s : State) : Result := coprocessorAccess s 4 (s.ea rs1 o)

end Sys2Proof.Machine
end

