-- ==== Sys2Proof/Machine/Atomic.lean ====
section
/-! DEFINITION. Atomic load-store (spec/40_load_store.md R240 to R243; R122): the read and the write are one step. -/

namespace Sys2Proof.Machine

/-- The read and the write of an atomic (R240, R242): MemFault is asked for both. Where the fault is the store's, r[rd] may hold
the loaded value (R113, log 28). DESIGN CHOICE: a `storeError` that MemFault answers for the read (kind atomic) counts as a fault of
the store half, whose trap it names (R112); the spec does not say which half it belongs to (log 28). -/
def atomicAccess (s : State) (asi : Asi) (ea : Word) (n : Nat) (rd : Reg) (loaded : Word) (k : Result) : Result :=
  let storeFault := fun f => raise (dataTrap f) (if Config.drawFirstHalf s.freeCount then s.setR rd loaded else s)
  access s asi ea n .atomic (fun f => if f = .storeError then storeFault f else raise (dataTrap f) s) <|
    access s asi ea n .store storeFault k

/-- LDSTUB and LDSTUBA (R240). -/
def loadStoreByte (s : State) (asi : Asi) (ea : Word) (rd : Reg) : Result :=
  let loaded := (s.byte ea).zeroExtend 32
  atomicAccess s asi ea 1 rd loaded (finish ((s.store ea [0xFF]).setR rd loaded))

/-- SWAP and SWAPA (R242). -/
def swapWord (s : State) (asi : Asi) (ea : Word) (rd : Reg) : Result :=
  raiseIf (misaligned 4 ea) .memAddressNotAligned s <|
    atomicAccess s asi ea 4 rd (s.word ea) (finish ((s.store ea (wordBytes (s.r rd))).setR rd (s.word ea)))

/-- LDSTUB (R240). -/
def execLdstub (rd rs1 : Reg) (o : RegOrImm) (s : State) : Result := loadStoreByte s s.dasi (s.ea rs1 o) rd

/-- LDSTUBA (R241). -/
def execLdstuba (rd rs1 : Reg) (i : Bool) (asi : Asi) (rs2 : Reg) (s : State) : Result :=
  alternate s i (loadStoreByte s asi (s.eaAlt rs1 rs2) rd)

/-- SWAP (R242). -/
def execSwap (rd rs1 : Reg) (o : RegOrImm) (s : State) : Result := swapWord s s.dasi (s.ea rs1 o) rd

/-- SWAPA (R243). -/
def execSwapa (rd rs1 : Reg) (i : Bool) (asi : Asi) (rs2 : Reg) (s : State) : Result :=
  alternate s i (swapWord s asi (s.eaAlt rs1 rs2) rd)

end Sys2Proof.Machine
end

