-- ==== Sys2Proof/Machine/Branch.lean ====
section
/-! DEFINITION. Bicc, FBfcc and CBccc (spec/43_window_control_transfer.md R410 to R466; the PC rules of 10_state.md R32 to R34). -/

namespace Sys2Proof.Machine

/-- The delay instruction of a branch is annulled (R410): a = 1 and the branch unconditional or not taken. -/
def annuls (taken unconditional a : Bool) : Bool := a && (unconditional || !taken)

/-- PC and nPC after a branch (R34, the table of cases). -/
def State.branchTo (s : State) (taken unconditional a : Bool) (target : Word) : State :=
  let t := if taken then s.transfer target else s.advance
  if annuls taken unconditional a then t.advance else t

/-- The mark of a conditional branch that did not annul (R716). -/
def State.markBranch (s : State) (b : Bool) : State := { s with haz := { s.haz with prevCondBranch := b } }

/-- A branch in the delay slot of a conditional branch: PC and nPC are free word addresses (R716, log 10). -/
def State.branchCouple (s : State) : State :=
  { s with pc := Config.freeCouplePc s.freeCount ++ 0b00#2, npc := Config.freeCoupleNpc s.freeCount ++ 0b00#2 }

/-- `bicc` of R410: the PC and nPC behaviour of every branch. -/
def branch (s : State) (taken unconditional a : Bool) (disp22 : BitVec 22) : Result :=
  if s.haz.prevCondBranch then .next (s.retire.branchCouple.markBranch (!unconditional))
  else
    .next ((s.retire.branchTo taken unconditional a (branchTarget s.pc disp22)).markBranch
      (!unconditional && !annuls taken unconditional a))

/-- `fbfcc` of R430. Under the hazards of R713 the outcome is free, FBA and FBN included (log 9). -/
def fpBranch (s : State) (taken unconditional a : Bool) (disp22 : BitVec 22) : Result :=
  needFpu s <|
    branch s (if 0 < s.haz.ldfsrCount ∨ s.haz.fpop2Prev = true then Config.freeFbfccTaken s.freeCount else taken)
      unconditional a disp22

/-- `cbccc` of R450. -/
def cpBranch (s : State) (taken unconditional a : Bool) (disp22 : BitVec 22) : Result :=
  needCp s (branch s taken unconditional a disp22)

/-- BA (R411). -/
def execBa (a : Bool) (disp22 : BitVec 22) (s : State) : Result := branch s true true a disp22

/-- BN (R412). -/
def execBn (a : Bool) (disp22 : BitVec 22) (s : State) : Result := branch s false true a disp22

/-- BNE (R413). -/
def execBne (a : Bool) (disp22 : BitVec 22) (s : State) : Result := branch s (!s.iccRead.z) false a disp22

/-- BE (R414). -/
def execBe (a : Bool) (disp22 : BitVec 22) (s : State) : Result := branch s s.iccRead.z false a disp22

/-- BG (R415). -/
def execBg (a : Bool) (disp22 : BitVec 22) (s : State) : Result := branch s (!s.iccRead.lessOrEqual) false a disp22

/-- BLE (R416). -/
def execBle (a : Bool) (disp22 : BitVec 22) (s : State) : Result := branch s s.iccRead.lessOrEqual false a disp22

/-- BGE (R417). -/
def execBge (a : Bool) (disp22 : BitVec 22) (s : State) : Result := branch s (!s.iccRead.less) false a disp22

/-- BL (R418). -/
def execBl (a : Bool) (disp22 : BitVec 22) (s : State) : Result := branch s s.iccRead.less false a disp22

/-- BGU (R419). -/
def execBgu (a : Bool) (disp22 : BitVec 22) (s : State) : Result := branch s (!s.iccRead.lessOrEqualUnsigned) false a disp22

/-- BLEU (R420). -/
def execBleu (a : Bool) (disp22 : BitVec 22) (s : State) : Result := branch s s.iccRead.lessOrEqualUnsigned false a disp22

/-- BCC (R421). -/
def execBcc (a : Bool) (disp22 : BitVec 22) (s : State) : Result := branch s (!s.iccRead.c) false a disp22

/-- BCS (R422). -/
def execBcs (a : Bool) (disp22 : BitVec 22) (s : State) : Result := branch s s.iccRead.c false a disp22

/-- BPOS (R423). -/
def execBpos (a : Bool) (disp22 : BitVec 22) (s : State) : Result := branch s (!s.iccRead.n) false a disp22

/-- BNEG (R424). -/
def execBneg (a : Bool) (disp22 : BitVec 22) (s : State) : Result := branch s s.iccRead.n false a disp22

/-- BVC (R425). -/
def execBvc (a : Bool) (disp22 : BitVec 22) (s : State) : Result := branch s (!s.iccRead.v) false a disp22

/-- BVS (R426). -/
def execBvs (a : Bool) (disp22 : BitVec 22) (s : State) : Result := branch s s.iccRead.v false a disp22

/-- FBA (R431). -/
def execFba (a : Bool) (disp22 : BitVec 22) (s : State) : Result := fpBranch s true true a disp22

/-- FBN (R432). -/
def execFbn (a : Bool) (disp22 : BitVec 22) (s : State) : Result := fpBranch s false true a disp22

/-- FBU (R433). -/
def execFbu (a : Bool) (disp22 : BitVec 22) (s : State) : Result := fpBranch s (ccIn s.fsr.fcc [3]) false a disp22

/-- FBG (R434). -/
def execFbg (a : Bool) (disp22 : BitVec 22) (s : State) : Result := fpBranch s (ccIn s.fsr.fcc [2]) false a disp22

/-- FBUG (R435). -/
def execFbug (a : Bool) (disp22 : BitVec 22) (s : State) : Result := fpBranch s (ccIn s.fsr.fcc [2, 3]) false a disp22

/-- FBL (R436). -/
def execFbl (a : Bool) (disp22 : BitVec 22) (s : State) : Result := fpBranch s (ccIn s.fsr.fcc [1]) false a disp22

/-- FBUL (R437). -/
def execFbul (a : Bool) (disp22 : BitVec 22) (s : State) : Result := fpBranch s (ccIn s.fsr.fcc [1, 3]) false a disp22

/-- FBLG (R438). -/
def execFblg (a : Bool) (disp22 : BitVec 22) (s : State) : Result := fpBranch s (ccIn s.fsr.fcc [1, 2]) false a disp22

/-- FBNE (R439). -/
def execFbne (a : Bool) (disp22 : BitVec 22) (s : State) : Result := fpBranch s (ccIn s.fsr.fcc [1, 2, 3]) false a disp22

/-- FBE (R440). -/
def execFbe (a : Bool) (disp22 : BitVec 22) (s : State) : Result := fpBranch s (ccIn s.fsr.fcc [0]) false a disp22

/-- FBUE (R441). -/
def execFbue (a : Bool) (disp22 : BitVec 22) (s : State) : Result := fpBranch s (ccIn s.fsr.fcc [0, 3]) false a disp22

/-- FBGE (R442). -/
def execFbge (a : Bool) (disp22 : BitVec 22) (s : State) : Result := fpBranch s (ccIn s.fsr.fcc [0, 2]) false a disp22

/-- FBUGE (R443). -/
def execFbuge (a : Bool) (disp22 : BitVec 22) (s : State) : Result := fpBranch s (ccIn s.fsr.fcc [0, 2, 3]) false a disp22

/-- FBLE (R444). -/
def execFble (a : Bool) (disp22 : BitVec 22) (s : State) : Result := fpBranch s (ccIn s.fsr.fcc [0, 1]) false a disp22

/-- FBULE (R445). -/
def execFbule (a : Bool) (disp22 : BitVec 22) (s : State) : Result := fpBranch s (ccIn s.fsr.fcc [0, 1, 3]) false a disp22

/-- FBO (R446). -/
def execFbo (a : Bool) (disp22 : BitVec 22) (s : State) : Result := fpBranch s (ccIn s.fsr.fcc [0, 1, 2]) false a disp22

/-- CBA (R451). -/
def execCba (a : Bool) (disp22 : BitVec 22) (s : State) : Result := cpBranch s true true a disp22

/-- CBN (R452). -/
def execCbn (a : Bool) (disp22 : BitVec 22) (s : State) : Result := cpBranch s false true a disp22

/-- CB3 (R453). -/
def execCb3 (a : Bool) (disp22 : BitVec 22) (s : State) : Result :=
  cpBranch s (ccIn (Config.freeCpCc s.freeCount) [3]) false a disp22

/-- CB2 (R454). -/
def execCb2 (a : Bool) (disp22 : BitVec 22) (s : State) : Result :=
  cpBranch s (ccIn (Config.freeCpCc s.freeCount) [2]) false a disp22

/-- CB23 (R455). -/
def execCb23 (a : Bool) (disp22 : BitVec 22) (s : State) : Result :=
  cpBranch s (ccIn (Config.freeCpCc s.freeCount) [2, 3]) false a disp22

/-- CB1 (R456). -/
def execCb1 (a : Bool) (disp22 : BitVec 22) (s : State) : Result :=
  cpBranch s (ccIn (Config.freeCpCc s.freeCount) [1]) false a disp22

/-- CB13 (R457). -/
def execCb13 (a : Bool) (disp22 : BitVec 22) (s : State) : Result :=
  cpBranch s (ccIn (Config.freeCpCc s.freeCount) [1, 3]) false a disp22

/-- CB12 (R458). -/
def execCb12 (a : Bool) (disp22 : BitVec 22) (s : State) : Result :=
  cpBranch s (ccIn (Config.freeCpCc s.freeCount) [1, 2]) false a disp22

/-- CB123 (R459). -/
def execCb123 (a : Bool) (disp22 : BitVec 22) (s : State) : Result :=
  cpBranch s (ccIn (Config.freeCpCc s.freeCount) [1, 2, 3]) false a disp22

/-- CB0 (R460). -/
def execCb0 (a : Bool) (disp22 : BitVec 22) (s : State) : Result :=
  cpBranch s (ccIn (Config.freeCpCc s.freeCount) [0]) false a disp22

/-- CB03 (R461). -/
def execCb03 (a : Bool) (disp22 : BitVec 22) (s : State) : Result :=
  cpBranch s (ccIn (Config.freeCpCc s.freeCount) [0, 3]) false a disp22

/-- CB02 (R462). -/
def execCb02 (a : Bool) (disp22 : BitVec 22) (s : State) : Result :=
  cpBranch s (ccIn (Config.freeCpCc s.freeCount) [0, 2]) false a disp22

/-- CB023 (R463). -/
def execCb023 (a : Bool) (disp22 : BitVec 22) (s : State) : Result :=
  cpBranch s (ccIn (Config.freeCpCc s.freeCount) [0, 2, 3]) false a disp22

/-- CB01 (R464). -/
def execCb01 (a : Bool) (disp22 : BitVec 22) (s : State) : Result :=
  cpBranch s (ccIn (Config.freeCpCc s.freeCount) [0, 1]) false a disp22

/-- CB013 (R465). -/
def execCb013 (a : Bool) (disp22 : BitVec 22) (s : State) : Result :=
  cpBranch s (ccIn (Config.freeCpCc s.freeCount) [0, 1, 3]) false a disp22

/-- CB012 (R466). -/
def execCb012 (a : Bool) (disp22 : BitVec 22) (s : State) : Result :=
  cpBranch s (ccIn (Config.freeCpCc s.freeCount) [0, 1, 2]) false a disp22

end Sys2Proof.Machine
end

