-- ==== Sys2Proof/Machine/CpOp.lean ====
section
/-! DEFINITION. Coprocessor operate (spec/45_fpop_cpop.md R590 to R592), and the words of no row (30_encoding.md R160). -/

namespace Sys2Proof.Machine

/-- A word the tables reject (R160): illegal_instruction, or, for an unassigned opf, unimplemented_FPop past need_fpu. -/
def execUnassigned (rej : Reject) (s : State) : Result :=
  match rej with
  | .unassignedOp2 => raise .illegalInstruction s
  | .unassignedArith => raise .illegalInstruction s
  | .unassignedMem => raise .illegalInstruction s
  | .unassignedFpop1 => needFpu s (fpTrap 3 s)
  | .unassignedFpop2 => needFpu s (fpTrap 3 s)

/-- CPop1 (R591). -/
def execCpop1 (_rd _rs1 : Reg) (_opc : BitVec 9) (_rs2 : Reg) (s : State) : Result :=
  needCp s (.refused .coprocessorUnspecified)

/-- CPop2 (R592). -/
def execCpop2 (_rd _rs1 : Reg) (_opc : BitVec 9) (_rs2 : Reg) (s : State) : Result :=
  needCp s (.refused .coprocessorUnspecified)

end Sys2Proof.Machine
end

