-- ==== Sys2Proof/Machine/FPNumerics.lean ====
section
/-! DEFINITION. `FPNumerics` (spec/45_fpop_cpop.md R541): the arithmetic of the FPops on operand bits held as numbers. Values are
exact until one rounding. PRESUMED, unsafe: the correctly rounded results and the five conditions are those of IEEE 754-1985,
which R541 requires and the sources do not print (log 21); NaN results and the integers of invalid conversions are free
(log 22, log 23). -/

namespace Sys2Proof.Machine

/-! ### Formats (R541) -/

/-- Width of the fraction. -/
def FpFormat.fractionBits : FpFormat → Nat
  | .single => 23
  | .double => 52
  | .quad => 112
/-- Width of the exponent. -/
def FpFormat.exponentBits : FpFormat → Nat
  | .single => 8
  | .double => 11
  | .quad => 15
/-- Exponent bias. -/
def FpFormat.bias : FpFormat → Nat
  | .single => 127
  | .double => 1023
  | .quad => 16383
/-- The exponent field of infinities and NaNs: all ones. -/
def FpFormat.maxExponent (fmt : FpFormat) : Nat := 1 <<< fmt.exponentBits - 1

/-- The five exceptions, in the bit order of TEM, aexc and cexc (R63): NV, OF, UF, DZ, NX. -/
abbrev FpExc := BitVec 5
/-- Invalid. -/
def excNV : FpExc := 0b10000#5
/-- Overflow. -/
def excOF : FpExc := 0b01000#5
/-- Underflow. -/
def excUF : FpExc := 0b00100#5
/-- Division by zero. -/
def excDZ : FpExc := 0b00010#5
/-- Inexact. -/
def excNX : FpExc := 0b00001#5
/-- No exception. -/
def excNone : FpExc := 0#5

/-- What the bits of an operand stand for (R541). A finite value is (-1)^sign × significand × 2^exponent. -/
inductive FpValue
  | nan (signaling : Bool)
  | infinity (sign : Bool)
  | finite (sign : Bool) (significand : Nat) (exponent : Int)
  deriving DecidableEq, Repr

/-- The value of operand bits (R541). -/
def fpUnpack (fmt : FpFormat) (bits : Nat) : FpValue :=
  let p := fmt.fractionBits
  let fraction := bits % (1 <<< p)
  let field := (bits >>> p) % (1 <<< fmt.exponentBits)
  let sign := (bits >>> (p + fmt.exponentBits)) % 2 == 1
  if field = fmt.maxExponent then
    if fraction = 0 then .infinity sign else .nan ((fraction >>> (p - 1)) % 2 == 0)
  else if field = 0 then .finite sign fraction (1 - (fmt.bias : Int) - p)
  else .finite sign (fraction + 1 <<< p) ((field : Int) - fmt.bias - p)

/-- The sign bit of a format. -/
def fpSign (fmt : FpFormat) (sign : Bool) : Nat := if sign then 1 <<< (fmt.fractionBits + fmt.exponentBits) else 0

/-- Infinity. -/
def fpInfinity (fmt : FpFormat) (sign : Bool) : Nat := fpSign fmt sign + fmt.maxExponent <<< fmt.fractionBits

/-- The largest finite magnitude. -/
def fpLargest (fmt : FpFormat) (sign : Bool) : Nat := fpSign fmt sign + fmt.maxExponent <<< fmt.fractionBits - 1

/-- Zero. -/
def fpZero (fmt : FpFormat) (sign : Bool) : Nat := fpSign fmt sign

/-- Where an FPop's NaN comes from: its opf, RD and operand bits. -/
structure NanSource where
  opf : BitVec 9
  rnd : BitVec 2
  x   : Nat
  y   : Nat
  deriving DecidableEq, Repr

/-- A quiet NaN with free sign and payload (log 22). -/
def fpNan (fmt : FpFormat) (src : NanSource) : Nat :=
  fpSign fmt (Config.nanSign src.opf src.rnd src.x src.y) + fmt.maxExponent <<< fmt.fractionBits
    + 1 <<< (fmt.fractionBits - 1) + Config.nanPayload src.opf src.rnd src.x src.y % (1 <<< (fmt.fractionBits - 1))

/-! ### Rounding (R64, R76) -/

/-- The truncated significand is rounded up in magnitude: `half` compares the discarded part with one half. RD 0 nearest even,
1 toward 0, 2 toward +infinity, 3 toward -infinity (R64). -/
def roundsUp (rnd : BitVec 2) (sign odd inexact : Bool) (half : Ordering) : Bool :=
  match rnd.toNat with
  | 0 => half == .gt || (half == .eq && odd)
  | 1 => false
  | 2 => inexact && !sign
  | _ => inexact && sign

/-- A result and its exceptions. -/
structure FpResult where
  bits : Nat
  exc  : FpExc
  deriving DecidableEq, Repr

/-- (-1)^sign × m × 2^e rounded to the format: overflow, underflow and inexact as R76 says, tininess judged on the unrounded
value; `ufm` is the underflow trap enable. A significand `m` cut from a longer one carries its discarded part in its last bit,
which must lie below the rounding position. -/
def fpRound (fmt : FpFormat) (rnd : BitVec 2) (ufm : Bool) (sign : Bool) (m : Nat) (e : Int) : FpResult :=
  if m = 0 then { bits := fpZero fmt sign, exc := excNone }
  else
    let p := fmt.fractionBits
    let emin : Int := 1 - fmt.bias
    let top : Int := e + Nat.log2 m
    let tiny := decide (top < emin)
    let lsb : Int := (if tiny then emin else top) - p
    let shift := (lsb - e).toNat
    let kept := if lsb ≤ e then m <<< (e - lsb).toNat else m >>> shift
    let cut := if lsb ≤ e then 0 else m % (1 <<< shift)
    let inexact := cut != 0
    let half := if lsb ≤ e then Ordering.lt else compare (2 * cut) (1 <<< shift)
    let rounded := kept + (if roundsUp rnd sign (kept % 2 == 1) inexact half then 1 else 0)
    let field : Nat := if tiny then 0 else (top + fmt.bias - 1).toNat
    let magnitude := field <<< p + rounded
    if fmt.maxExponent <<< p ≤ magnitude then
      let toInfinity := rnd == 0 || (rnd == 2 && !sign) || (rnd == 3 && sign)
      { bits := if toInfinity then fpInfinity fmt sign else fpLargest fmt sign, exc := excOF ||| excNX }
    else
      { bits := fpSign fmt sign + magnitude
        exc := (if inexact then excNX else excNone) ||| (if tiny && (ufm || inexact) then excUF else excNone) }

/-! ### Operations (R541, R584 to R589, R593, R594) -/

/-- The result of an invalid operation. -/
def fpInvalid (fmt : FpFormat) (src : NanSource) : FpResult := { bits := fpNan fmt src, exc := excNV }

/-- The result where an operand is a NaN: NV if one is signaling. -/
def fpNanOperand (fmt : FpFormat) (src : NanSource) (signaling : Bool) : FpResult :=
  { bits := fpNan fmt src, exc := if signaling then excNV else excNone }

/-- The signed significand. -/
def signedSignificand (sign : Bool) (m : Nat) : Int := if sign then -(m : Int) else m

/-- x + y; a subtraction negates y first (`flip`). An exact zero sum of opposite signs is +0, or -0 when rounding toward
-infinity (R589). -/
def fpAdd (fmt : FpFormat) (rnd : BitVec 2) (ufm : Bool) (src : NanSource) (flip : Bool) : FpResult :=
  match fpUnpack fmt src.x, fpUnpack fmt src.y with
  | .nan a, .nan b => fpNanOperand fmt src (a || b)
  | .nan a, .infinity _ => fpNanOperand fmt src a
  | .nan a, .finite _ _ _ => fpNanOperand fmt src a
  | .infinity _, .nan b => fpNanOperand fmt src b
  | .finite _ _ _, .nan b => fpNanOperand fmt src b
  | .infinity sx, .infinity sy =>
    if sx = (sy ^^ flip) then { bits := fpInfinity fmt sx, exc := excNone } else fpInvalid fmt src
  | .infinity sx, .finite _ _ _ => { bits := fpInfinity fmt sx, exc := excNone }
  | .finite _ _ _, .infinity sy => { bits := fpInfinity fmt (sy ^^ flip), exc := excNone }
  | .finite sx mx ex, .finite sy my ey =>
    let e := min ex ey
    let sum := signedSignificand sx (mx <<< (ex - e).toNat) + signedSignificand (sy ^^ flip) (my <<< (ey - e).toNat)
    if sum = 0 then
      { bits := fpZero fmt (if sx = (sy ^^ flip) then sx else rnd == 3), exc := excNone }
    else fpRound fmt rnd ufm (decide (sum < 0)) sum.natAbs e

/-- x × y of format `fmt`, rounded to format `dst` (R593; `mulw` of R541 where dst is the wider format). -/
def fpMul (fmt dst : FpFormat) (rnd : BitVec 2) (ufm : Bool) (src : NanSource) : FpResult :=
  match fpUnpack fmt src.x, fpUnpack fmt src.y with
  | .nan a, .nan b => fpNanOperand dst src (a || b)
  | .nan a, .infinity _ => fpNanOperand dst src a
  | .nan a, .finite _ _ _ => fpNanOperand dst src a
  | .infinity _, .nan b => fpNanOperand dst src b
  | .finite _ _ _, .nan b => fpNanOperand dst src b
  | .infinity sx, .infinity sy => { bits := fpInfinity dst (sx ^^ sy), exc := excNone }
  | .infinity sx, .finite sy my _ =>
    if my = 0 then fpInvalid dst src else { bits := fpInfinity dst (sx ^^ sy), exc := excNone }
  | .finite sx mx _, .infinity sy =>
    if mx = 0 then fpInvalid dst src else { bits := fpInfinity dst (sx ^^ sy), exc := excNone }
  | .finite sx mx ex, .finite sy my ey => fpRound dst rnd ufm (sx ^^ sy) (mx * my) (ex + ey)

/-- x ÷ y (R593): 0 ÷ 0 and infinity ÷ infinity are invalid, a finite nonzero x over 0 is DZ (R76). -/
def fpDiv (fmt : FpFormat) (rnd : BitVec 2) (ufm : Bool) (src : NanSource) : FpResult :=
  match fpUnpack fmt src.x, fpUnpack fmt src.y with
  | .nan a, .nan b => fpNanOperand fmt src (a || b)
  | .nan a, .infinity _ => fpNanOperand fmt src a
  | .nan a, .finite _ _ _ => fpNanOperand fmt src a
  | .infinity _, .nan b => fpNanOperand fmt src b
  | .finite _ _ _, .nan b => fpNanOperand fmt src b
  | .infinity _, .infinity _ => fpInvalid fmt src
  | .infinity sx, .finite sy _ _ => { bits := fpInfinity fmt (sx ^^ sy), exc := excNone }
  | .finite sx _ _, .infinity sy => { bits := fpZero fmt (sx ^^ sy), exc := excNone }
  | .finite sx mx ex, .finite sy my ey =>
    if my = 0 then
      if mx = 0 then fpInvalid fmt src else { bits := fpInfinity fmt (sx ^^ sy), exc := excDZ }
    else
      let k := fmt.fractionBits + 4 + Nat.log2 my
      let q := (mx <<< k) / my
      let sticky := if (mx <<< k) % my = 0 then 0 else 1
      fpRound fmt rnd ufm (sx ^^ sy) (2 * q + sticky) (ex - ey - k - 1)

/-- The integer square root, one bit of `r` per unit of fuel, from bit `k - 1` down. -/
def isqrtFrom : Nat → Nat → Nat → Nat
  | 0, _, r => r
  | k + 1, n, r => if (r + 1 <<< k) * (r + 1 <<< k) ≤ n then isqrtFrom k n (r + 1 <<< k) else isqrtFrom k n r

/-- The square root (R588): a negative operand other than -0 is invalid, the root of -0 is -0. -/
def fpSqrt (fmt : FpFormat) (rnd : BitVec 2) (src : NanSource) : FpResult :=
  match fpUnpack fmt src.y with
  | .nan b => fpNanOperand fmt src b
  | .infinity sign => if sign then fpInvalid fmt src else { bits := fpInfinity fmt false, exc := excNone }
  | .finite sign m e =>
    if m = 0 then { bits := fpZero fmt sign, exc := excNone }
    else if sign then fpInvalid fmt src
    else
      let k0 := 2 * (fmt.fractionBits + 4)
      let k := if (e - k0) % 2 = 0 then k0 else k0 + 1
      let n := m <<< k
      let r := isqrtFrom (Nat.log2 n / 2 + 1) n 0
      let sticky := if r * r = n then 0 else 1
      fpRound fmt rnd false false (2 * r + sticky) ((e - k) / 2 - 1)

/-- Conversion between formats (R586). -/
def fpConvert (fmt dst : FpFormat) (rnd : BitVec 2) (ufm : Bool) (src : NanSource) : FpResult :=
  match fpUnpack fmt src.y with
  | .nan b => fpNanOperand dst src b
  | .infinity sign => { bits := fpInfinity dst sign, exc := excNone }
  | .finite sign m e => fpRound dst rnd ufm sign m e

/-- A signed integer word to a format (R584). -/
def fpFromInt (dst : FpFormat) (rnd : BitVec 2) (w : Word) : FpResult :=
  fpRound dst rnd false (decide (w.toInt < 0)) w.toInt.natAbs 0

/-- A format to a signed integer word, rounding toward zero whatever RD is (R585). -/
def fpToInt (fmt : FpFormat) (opf : BitVec 9) (x : Nat) : FpResult :=
  let invalid : FpResult := { bits := (Config.invalidInteger opf x).toNat, exc := excNV }
  match fpUnpack fmt x with
  | .nan _ => invalid
  | .infinity _ => invalid
  | .finite sign m e =>
    let whole := if 0 ≤ e then m <<< e.toNat else m >>> (-e).toNat
    let inexact := !decide (0 ≤ e) && m % (1 <<< (-e).toNat) != 0
    let v := signedSignificand sign whole
    if v < -0x80000000 ∨ 0x7FFFFFFF < v then invalid
    else { bits := (BitVec.ofInt 32 v).toNat, exc := if inexact then excNX else excNone }

/-- The outcome of `cmp` (R541): fcc, and whether an operand is a signaling or a quiet NaN. -/
structure FpRelation where
  fcc  : BitVec 2
  snan : Bool
  qnan : Bool
  deriving DecidableEq, Repr

/-- fcc of an ordering (R73): 0 equal, 1 less, 2 greater. -/
def fccOf : Ordering → BitVec 2
  | .eq => 0
  | .lt => 1
  | .gt => 2

/-- `cmp` (R541, R594): +0 equals -0, infinities are ordered, a NaN is unordered (3). -/
def fpCompare (fmt : FpFormat) (x y : Nat) : FpRelation :=
  match fpUnpack fmt x, fpUnpack fmt y with
  | .nan a, .nan b => { fcc := 3, snan := a || b, qnan := !a || !b }
  | .nan a, .infinity _ => { fcc := 3, snan := a, qnan := !a }
  | .nan a, .finite _ _ _ => { fcc := 3, snan := a, qnan := !a }
  | .infinity _, .nan b => { fcc := 3, snan := b, qnan := !b }
  | .finite _ _ _, .nan b => { fcc := 3, snan := b, qnan := !b }
  | .infinity sx, .infinity sy =>
    { fcc := if sx = sy then 0 else if sx then 1 else 2, snan := false, qnan := false }
  | .infinity sx, .finite _ _ _ => { fcc := if sx then 1 else 2, snan := false, qnan := false }
  | .finite _ _ _, .infinity sy => { fcc := if sy then 2 else 1, snan := false, qnan := false }
  | .finite sx mx ex, .finite sy my ey =>
    let e := min ex ey
    { fcc := fccOf (compare (signedSignificand sx (mx <<< (ex - e).toNat)) (signedSignificand sy (my <<< (ey - e).toNat)))
      snan := false, qnan := false }

end Sys2Proof.Machine
end

