-- ==== Sys2Proof/Machine/FpOp.lean ====
section
/-! DEFINITION. Floating-point operate (spec/45_fpop_cpop.md R540 to R594). -/

namespace Sys2Proof.Machine

/-- `one_bit` of R543: the most significant set bit, in the order NV, OF, UF, DZ, NX. -/
def oneBit (m : FpExc) : FpExc :=
  if m.getLsbD 4 then excNV else if m.getLsbD 3 then excOF else if m.getLsbD 2 then excUF
  else if m.getLsbD 1 then excDZ else if m.getLsbD 0 then excNX else excNone

/-- UFM, FSR bit 25 (R63). -/
def State.underflowTrap (s : State) : Bool := s.fsr.tem.getLsbD 2

/-- The FSR after an IEEE_754_exception trap (R543). -/
def Fsr.trapped (f : Fsr) (exc : FpExc) : Fsr := { f with ftt := 1, cexc := oneBit (exc &&& f.tem) }

/-- The FSR after an FPop that completes (R543). -/
def Fsr.completed (f : Fsr) (exc : FpExc) : Fsr := { f with ftt := 0, cexc := exc, aexc := f.aexc ||| exc }

/-- Completion (R543): fp_exception with ftt = 1 and nothing written, or `done` with the exceptions recorded. -/
def fpComplete (s : State) (exc : FpExc) (done : State → Result) : Result :=
  if exc &&& s.fsr.tem ≠ 0 then raise .fpException { s with fsr := s.fsr.trapped exc }
  else done { s with fsr := s.fsr.completed exc }

/-- What the arithmetic delivers, or, with FSR.NS = 1, free bits and free exceptions among those the instruction can raise (R67,
log 14). -/
def State.nonstandard (s : State) (allowed : FpExc) (standard : FpResult) : FpResult :=
  if s.fsr.ns then { bits := Config.freeNsResult s.freeCount, exc := Config.freeNsExc s.freeCount &&& allowed } else standard

/-- Steps 1, 3 and 4 of R540: the enables and the register numbers. -/
def fpChecks (s : State) (opf : BitVec 9) (misalignedReg : Bool) (k : Result) : Result :=
  needFpu s <|
    if !Config.implementedFpop opf then fpTrap 3 s
    else if misalignedReg && Config.invalidFpRegTraps then fpTrap 6 s
    else k

/-- The FPop1 of one source rs2 of format `fmt` and a destination of format `dst`. -/
def fpUnary (s : State) (opf : BitVec 9) (fmt dst : FpFormat) (rd rs2 : Reg) (allowed : FpExc)
    (f : NanSource → FpResult) : Result :=
  fpChecks s opf (fpMisaligned fmt rs2 || fpMisaligned dst rd) <|
    let res := s.nonstandard allowed (f { opf := opf, rnd := s.fsr.rd, x := 0, y := s.fpOperand fmt rs2 })
    fpComplete s res.exc (fun t => finish (t.setFp dst rd res.bits))

/-- The FPop1 of two sources of format `fmt` and a destination of format `dst`. -/
def fpBinary (s : State) (opf : BitVec 9) (fmt dst : FpFormat) (rd rs1 rs2 : Reg) (allowed : FpExc)
    (f : NanSource → FpResult) : Result :=
  fpChecks s opf (fpMisaligned fmt rs1 || fpMisaligned fmt rs2 || fpMisaligned dst rd) <|
    let res := s.nonstandard allowed
      (f { opf := opf, rnd := s.fsr.rd, x := s.fpOperand fmt rs1, y := s.fpOperand fmt rs2 })
    fpComplete s res.exc (fun t => finish (t.setFp dst rd res.bits))

/-- The relation as a result: fcc as its bits, NV as R594 says. -/
def FpRelation.result (r : FpRelation) (signalOnQuiet : Bool) : FpResult :=
  { bits := r.fcc.toNat, exc := if r.snan || (signalOnQuiet && r.qnan) then excNV else excNone }

/-- `FSR.fcc <- v`. -/
def State.setFcc (s : State) (v : BitVec 2) : State := { s with fsr := { s.fsr with fcc := v } }

/-- The mark of an FPop2 (R713). -/
def State.markFpop2 (s : State) : State := { s with haz := { s.haz with fpop2Prev := true } }

/-- `fcmp` of R594: the six FPop2 instructions. -/
def fpCompareOp (s : State) (opf : BitVec 9) (fmt : FpFormat) (rs1 rs2 : Reg) (signalOnQuiet : Bool) : Result :=
  fpChecks s opf (fpMisaligned fmt rs1 || fpMisaligned fmt rs2) <|
    let res := s.nonstandard excNV
      ((fpCompare fmt (s.fpOperand fmt rs1) (s.fpOperand fmt rs2)).result signalOnQuiet)
    fpComplete s res.exc (fun t => .next (t.setFcc (BitVec.ofNat 2 res.bits)).retire.advance.markFpop2)

/-- FiTOs (R545). -/
def execFitos (rd rs2 : Reg) (s : State) : Result :=
  fpUnary s 0x0C4 .single .single rd rs2 excNX (fun src => fpFromInt .single src.rnd (BitVec.ofNat 32 src.y))

/-- FiTOd (R546). -/
def execFitod (rd rs2 : Reg) (s : State) : Result :=
  fpUnary s 0x0C8 .single .double rd rs2 excNone (fun src => fpFromInt .double src.rnd (BitVec.ofNat 32 src.y))

/-- FiTOq (R547). -/
def execFitoq (rd rs2 : Reg) (s : State) : Result :=
  fpUnary s 0x0CC .single .quad rd rs2 excNone (fun src => fpFromInt .quad src.rnd (BitVec.ofNat 32 src.y))

/-- FsTOi (R548). -/
def execFstoi (rd rs2 : Reg) (s : State) : Result :=
  fpUnary s 0x0D1 .single .single rd rs2 (excNV ||| excNX) (fun src => fpToInt .single 0x0D1 src.y)

/-- FdTOi (R549). -/
def execFdtoi (rd rs2 : Reg) (s : State) : Result :=
  fpUnary s 0x0D2 .double .single rd rs2 (excNV ||| excNX) (fun src => fpToInt .double 0x0D2 src.y)

/-- FqTOi (R583). -/
def execFqtoi (rd rs2 : Reg) (s : State) : Result :=
  fpUnary s 0x0D3 .quad .single rd rs2 (excNV ||| excNX) (fun src => fpToInt .quad 0x0D3 src.y)

/-- FsTOd (R550). -/
def execFstod (rd rs2 : Reg) (s : State) : Result :=
  fpUnary s 0x0C9 .single .double rd rs2 excNV
    (fun src => fpConvert .single .double src.rnd s.underflowTrap src)

/-- FsTOq (R551). -/
def execFstoq (rd rs2 : Reg) (s : State) : Result :=
  fpUnary s 0x0CD .single .quad rd rs2 excNV
    (fun src => fpConvert .single .quad src.rnd s.underflowTrap src)

/-- FdTOs (R552). -/
def execFdtos (rd rs2 : Reg) (s : State) : Result :=
  fpUnary s 0x0C6 .double .single rd rs2 (excNV ||| excOF ||| excUF ||| excNX)
    (fun src => fpConvert .double .single src.rnd s.underflowTrap src)

/-- FdTOq (R553). -/
def execFdtoq (rd rs2 : Reg) (s : State) : Result :=
  fpUnary s 0x0CE .double .quad rd rs2 excNV
    (fun src => fpConvert .double .quad src.rnd s.underflowTrap src)

/-- FqTOs (R554). -/
def execFqtos (rd rs2 : Reg) (s : State) : Result :=
  fpUnary s 0x0C7 .quad .single rd rs2 (excNV ||| excOF ||| excUF ||| excNX)
    (fun src => fpConvert .quad .single src.rnd s.underflowTrap src)

/-- FqTOd (R555). -/
def execFqtod (rd rs2 : Reg) (s : State) : Result :=
  fpUnary s 0x0CB .quad .double rd rs2 (excNV ||| excOF ||| excUF ||| excNX)
    (fun src => fpConvert .quad .double src.rnd s.underflowTrap src)

/-- FMOVs (R556). -/
def execFmovs (rd rs2 : Reg) (s : State) : Result :=
  fpUnary s 0x001 .single .single rd rs2 excNone (fun _ => ⟨(s.fr rs2).toNat, excNone⟩)

/-- FNEGs (R557). -/
def execFnegs (rd rs2 : Reg) (s : State) : Result :=
  fpUnary s 0x005 .single .single rd rs2 excNone (fun _ => ⟨(s.fr rs2 ^^^ 0x80000000#32).toNat, excNone⟩)

/-- FABSs (R558). -/
def execFabss (rd rs2 : Reg) (s : State) : Result :=
  fpUnary s 0x009 .single .single rd rs2 excNone (fun _ => ⟨(s.fr rs2 &&& 0x7FFFFFFF#32).toNat, excNone⟩)

/-- FSQRTs (R559). -/
def execFsqrts (rd rs2 : Reg) (s : State) : Result :=
  fpUnary s 0x029 .single .single rd rs2 (excNV ||| excNX) (fun src => fpSqrt .single src.rnd src)

/-- FSQRTd (R560). -/
def execFsqrtd (rd rs2 : Reg) (s : State) : Result :=
  fpUnary s 0x02A .double .double rd rs2 (excNV ||| excNX) (fun src => fpSqrt .double src.rnd src)

/-- FSQRTq (R561). -/
def execFsqrtq (rd rs2 : Reg) (s : State) : Result :=
  fpUnary s 0x02B .quad .quad rd rs2 (excNV ||| excNX) (fun src => fpSqrt .quad src.rnd src)

/-- FADDs (R562). -/
def execFadds (rd rs1 rs2 : Reg) (s : State) : Result :=
  fpBinary s 0x041 .single .single rd rs1 rs2 (excNV ||| excOF ||| excUF ||| excNX)
    (fun src => fpAdd .single src.rnd s.underflowTrap src false)

/-- FADDd (R563). -/
def execFaddd (rd rs1 rs2 : Reg) (s : State) : Result :=
  fpBinary s 0x042 .double .double rd rs1 rs2 (excNV ||| excOF ||| excUF ||| excNX)
    (fun src => fpAdd .double src.rnd s.underflowTrap src false)

/-- FADDq (R564). -/
def execFaddq (rd rs1 rs2 : Reg) (s : State) : Result :=
  fpBinary s 0x043 .quad .quad rd rs1 rs2 (excNV ||| excOF ||| excUF ||| excNX)
    (fun src => fpAdd .quad src.rnd s.underflowTrap src false)

/-- FSUBs (R565). -/
def execFsubs (rd rs1 rs2 : Reg) (s : State) : Result :=
  fpBinary s 0x045 .single .single rd rs1 rs2 (excNV ||| excOF ||| excUF ||| excNX)
    (fun src => fpAdd .single src.rnd s.underflowTrap src true)

/-- FSUBd (R566). -/
def execFsubd (rd rs1 rs2 : Reg) (s : State) : Result :=
  fpBinary s 0x046 .double .double rd rs1 rs2 (excNV ||| excOF ||| excUF ||| excNX)
    (fun src => fpAdd .double src.rnd s.underflowTrap src true)

/-- FSUBq (R567). -/
def execFsubq (rd rs1 rs2 : Reg) (s : State) : Result :=
  fpBinary s 0x047 .quad .quad rd rs1 rs2 (excNV ||| excOF ||| excUF ||| excNX)
    (fun src => fpAdd .quad src.rnd s.underflowTrap src true)

/-- FMULs (R568). -/
def execFmuls (rd rs1 rs2 : Reg) (s : State) : Result :=
  fpBinary s 0x049 .single .single rd rs1 rs2 (excNV ||| excOF ||| excUF ||| excNX)
    (fun src => fpMul .single .single src.rnd s.underflowTrap src)

/-- FMULd (R569). -/
def execFmuld (rd rs1 rs2 : Reg) (s : State) : Result :=
  fpBinary s 0x04A .double .double rd rs1 rs2 (excNV ||| excOF ||| excUF ||| excNX)
    (fun src => fpMul .double .double src.rnd s.underflowTrap src)

/-- FMULq (R570). -/
def execFmulq (rd rs1 rs2 : Reg) (s : State) : Result :=
  fpBinary s 0x04B .quad .quad rd rs1 rs2 (excNV ||| excOF ||| excUF ||| excNX)
    (fun src => fpMul .quad .quad src.rnd s.underflowTrap src)

/-- FsMULd (R571). -/
def execFsmuld (rd rs1 rs2 : Reg) (s : State) : Result :=
  fpBinary s 0x069 .single .double rd rs1 rs2 excNV
    (fun src => fpMul .single .double src.rnd s.underflowTrap src)

/-- FdMULq (R572). -/
def execFdmulq (rd rs1 rs2 : Reg) (s : State) : Result :=
  fpBinary s 0x06E .double .quad rd rs1 rs2 excNV
    (fun src => fpMul .double .quad src.rnd s.underflowTrap src)

/-- FDIVs (R573). -/
def execFdivs (rd rs1 rs2 : Reg) (s : State) : Result :=
  fpBinary s 0x04D .single .single rd rs1 rs2 (excNV ||| excOF ||| excUF ||| excDZ ||| excNX)
    (fun src => fpDiv .single src.rnd s.underflowTrap src)

/-- FDIVd (R574). -/
def execFdivd (rd rs1 rs2 : Reg) (s : State) : Result :=
  fpBinary s 0x04E .double .double rd rs1 rs2 (excNV ||| excOF ||| excUF ||| excDZ ||| excNX)
    (fun src => fpDiv .double src.rnd s.underflowTrap src)

/-- FDIVq (R575). -/
def execFdivq (rd rs1 rs2 : Reg) (s : State) : Result :=
  fpBinary s 0x04F .quad .quad rd rs1 rs2 (excNV ||| excOF ||| excUF ||| excDZ ||| excNX)
    (fun src => fpDiv .quad src.rnd s.underflowTrap src)

/-- FCMPs (R576). -/
def execFcmps (rs1 rs2 : Reg) (s : State) : Result := fpCompareOp s 0x051 .single rs1 rs2 false

/-- FCMPd (R577). -/
def execFcmpd (rs1 rs2 : Reg) (s : State) : Result := fpCompareOp s 0x052 .double rs1 rs2 false

/-- FCMPq (R578). -/
def execFcmpq (rs1 rs2 : Reg) (s : State) : Result := fpCompareOp s 0x053 .quad rs1 rs2 false

/-- FCMPEs (R579). -/
def execFcmpes (rs1 rs2 : Reg) (s : State) : Result := fpCompareOp s 0x055 .single rs1 rs2 true

/-- FCMPEd (R580). -/
def execFcmped (rs1 rs2 : Reg) (s : State) : Result := fpCompareOp s 0x056 .double rs1 rs2 true

/-- FCMPEq (R581). -/
def execFcmpeq (rs1 rs2 : Reg) (s : State) : Result := fpCompareOp s 0x057 .quad rs1 rs2 true

end Sys2Proof.Machine
end

