-- ==== Sys2Proof/Machine/Logical.lean ====
section
/-! DEFINITION. SETHI, NOP, logical and shift instructions (spec/41_sethi_logical_shift.md R300 to R324). -/

namespace Sys2Proof.Machine

/-- A logical cc form (R302): write the result and its codes. -/
def writeLogicCc (s : State) (rd : Reg) (res : Word) : Result := writeRegCc s rd res (logicIcc res)

/-- NOP (R301). -/
def execNop (s : State) : Result := finish s

/-- SETHI (R300). -/
def execSethi (rd : Reg) (imm22 : BitVec 22) (s : State) : Result := writeReg s rd (imm22 ++ 0#10)

/-- AND (R303). -/
def execAnd (rd rs1 : Reg) (o : RegOrImm) (s : State) : Result := writeReg s rd (s.r rs1 &&& s.op2 o)

/-- ANDcc (R304). -/
def execAndcc (rd rs1 : Reg) (o : RegOrImm) (s : State) : Result := writeLogicCc s rd (s.r rs1 &&& s.op2 o)

/-- ANDN (R305). -/
def execAndn (rd rs1 : Reg) (o : RegOrImm) (s : State) : Result := writeReg s rd (s.r rs1 &&& ~~~s.op2 o)

/-- ANDNcc (R306). -/
def execAndncc (rd rs1 : Reg) (o : RegOrImm) (s : State) : Result := writeLogicCc s rd (s.r rs1 &&& ~~~s.op2 o)

/-- OR (R307). -/
def execOr (rd rs1 : Reg) (o : RegOrImm) (s : State) : Result := writeReg s rd (s.r rs1 ||| s.op2 o)

/-- ORcc (R308). -/
def execOrcc (rd rs1 : Reg) (o : RegOrImm) (s : State) : Result := writeLogicCc s rd (s.r rs1 ||| s.op2 o)

/-- ORN (R309). -/
def execOrn (rd rs1 : Reg) (o : RegOrImm) (s : State) : Result := writeReg s rd (s.r rs1 ||| ~~~s.op2 o)

/-- ORNcc (R310). -/
def execOrncc (rd rs1 : Reg) (o : RegOrImm) (s : State) : Result := writeLogicCc s rd (s.r rs1 ||| ~~~s.op2 o)

/-- XOR (R311). -/
def execXor (rd rs1 : Reg) (o : RegOrImm) (s : State) : Result := writeReg s rd (s.r rs1 ^^^ s.op2 o)

/-- XORcc (R312). -/
def execXorcc (rd rs1 : Reg) (o : RegOrImm) (s : State) : Result := writeLogicCc s rd (s.r rs1 ^^^ s.op2 o)

/-- XNOR (R313). -/
def execXnor (rd rs1 : Reg) (o : RegOrImm) (s : State) : Result := writeReg s rd (~~~(s.r rs1 ^^^ s.op2 o))

/-- XNORcc (R314). -/
def execXnorcc (rd rs1 : Reg) (o : RegOrImm) (s : State) : Result := writeLogicCc s rd (~~~(s.r rs1 ^^^ s.op2 o))

/-- SLL (R321). -/
def execSll (rd rs1 : Reg) (o : ShiftOperand) (s : State) : Result := writeReg s rd (s.r rs1 <<< s.shiftCount o)

/-- SRL (R322). -/
def execSrl (rd rs1 : Reg) (o : ShiftOperand) (s : State) : Result := writeReg s rd (s.r rs1 >>> s.shiftCount o)

/-- SRA (R323). -/
def execSra (rd rs1 : Reg) (o : ShiftOperand) (s : State) : Result := writeReg s rd ((s.r rs1).sshiftRight (s.shiftCount o))

end Sys2Proof.Machine
end

