-- ==== Sys2Proof/Machine/StateReg.lean ====
section
/-! DEFINITION. Read and write state register, STBAR, UNIMP, FLUSH (spec/44_state_register_misc.md R500 to R522; the
delayed-write windows of 70_reset_and_hazards.md R712). -/

namespace Sys2Proof.Machine

/-- The old value a window keeps: the one an open window already has, else `old` if this write changes the field (R712,
`open_wr_window`). -/
def keptOld {α : Type} [DecidableEq α] (count : Nat) (kept : Option α) (old new : α) : Option α :=
  if 0 < count ∧ kept.isSome = true then kept else if old = new then none else some old

/-- `open_wr_window` for a register of one field (R712). -/
def Shadow.reopen {α : Type} [DecidableEq α] (h : Shadow α) (old new : α) : Shadow α :=
  { count := 3, old := keptOld h.count h.old old new }

/-- `open_wr_window(PSR, ...)` (R712, R513). -/
def PsrShadow.reopen (h : PsrShadow) (old new : Psr) : PsrShadow :=
  { count := 3
    icc := keptOld h.count h.icc old.icc new.icc
    ec := keptOld h.count h.ec old.ec new.ec
    ef := keptOld h.count h.ef old.ef new.ef
    pil := keptOld h.count h.pil old.pil new.pil
    s := keptOld h.count h.s old.s new.s
    ps := keptOld h.count h.ps old.ps new.ps
    et := keptOld h.count h.et old.et new.et
    cwp := keptOld h.count h.cwp old.cwp new.cwp }

/-- WRY: Y <- v, and its window (R512). -/
def State.writeY (s : State) (v : Word) : State :=
  let t := s.retire.advance
  { t with y := v, haz := { t.haz with y := s.haz.y.reopen s.y v } }

/-- The PSR WRPSR writes from `v` (R513): impl and ver are hardwired, EC and EF exist with their unit only. -/
def psrOfWord (v : Word) : Psr :=
  { icc := iccOfBits (v.extractLsb' 20 4)
    ec := Config.hasCp && v.getLsbD 13
    ef := Config.hasFpu && v.getLsbD 12
    pil := v.extractLsb' 8 4
    s := v.getLsbD 7
    ps := v.getLsbD 6
    et := v.getLsbD 5
    cwp := v.extractLsb' 0 5 }

/-- The PIL and ET quirk starts where PIL changes and ET goes from 0 to 1; those already open go on (R620, log 18). -/
def pilQuirksAfter (aged : List PilQuirk) (old new : Psr) : List PilQuirk :=
  if old.pil ≠ new.pil ∧ old.et = false ∧ new.et = true then { count := 3, old := old.pil } :: aged else aged

/-- WRPSR past its checks: the PSR, and its window (R513). -/
def State.writePsr (s : State) (v : Word) : State :=
  let t := s.retire.advance
  { t with
    psr := psrOfWord v
    haz := { t.haz with
      psr := s.haz.psr.reopen s.psr (psrOfWord v)
      pilQuirks := pilQuirksAfter s.haz.agedQuirks s.psr (psrOfWord v) } }

/-- WRWIM: WIM <- v in the implemented bits, and its window (R514). -/
def State.writeWim (s : State) (v : Word) : State :=
  let t := s.retire.advance
  { t with wim := wimMask &&& v, haz := { t.haz with wim := s.haz.wim.reopen s.wim (wimMask &&& v) } }

/-- WRTBR: TBA <- v[31:12], tt and bits 3:0 stay, and its window (R515). -/
def State.writeTbr (s : State) (v : Word) : State :=
  let t := s.retire.advance
  { t with
    tbr := { s.tbr with tba := v.extractLsb' 12 20 }
    haz := { t.haz with tbr := s.haz.tbr.reopen s.tbr.tba (v.extractLsb' 12 20) } }

/-- The flush list after a FLUSH of doubleword `d`: `old` before the instruction, `aged` after its aging (R125, R522). -/
def flushAfter (old aged : List (Nat × FlushStatus)) (d : Nat) : List (Nat × FlushStatus) :=
  if (flushFind old d).isNone then aged
  else if Config.flushLatency = 0 then flushErase aged d
  else flushSet aged d (.counting Config.flushLatency)

/-- FLUSH (R522, R125): a doubleword stored to starts its countdown; the others age as after any instruction (R714). -/
def State.flush (s : State) (ea : Word) : State :=
  { s.retire.advance with flushPending := flushAfter s.flushPending (flushAge s.flushPending) (doublewordOf ea) }

/-- RDY (R501). -/
def execRdy (rd : Reg) (s : State) : Result := writeReg s rd s.yRead

/-- STBAR (R520). -/
def execStbar (s : State) : Result := finish s

/-- RDASR (R502). -/
def execRdasr (rd rs1 : Reg) (s : State) : Result :=
  if rs1.toNat < 15 then writeReg s rd (Config.freeAsr s.freeCount)
  else if rs1 = 15 then .refused .reservedAsr
  else if Config.asrSet.contains rs1 then .refused .asrUnspecified
  else raise .illegalInstruction s

/-- RDPSR (R503). -/
def execRdpsr (rd : Reg) (s : State) : Result := needSupervisor s (writeReg s rd s.psrWord)

/-- RDWIM (R504). -/
def execRdwim (rd : Reg) (s : State) : Result := needSupervisor s (writeReg s rd s.wimRead)

/-- RDTBR (R505). -/
def execRdtbr (rd : Reg) (s : State) : Result := needSupervisor s (writeReg s rd s.tbrWord)

/-- WRY (R512). -/
def execWry (rs1 : Reg) (o : RegOrImm) (s : State) : Result := .next (s.writeY (s.r rs1 ^^^ s.op2 o))

/-- WRASR (R511). -/
def execWrasr (rd _rs1 : Reg) (_o : RegOrImm) (s : State) : Result :=
  if rd.toNat < 16 then .refused .reservedAsr
  else if Config.asrSet.contains rd then .refused .asrUnspecified
  else raise .illegalInstruction s

/-- WRPSR (R513). -/
def execWrpsr (rs1 : Reg) (o : RegOrImm) (s : State) : Result :=
  needSupervisor s <|
    raiseIf (decide (Config.nwindows ≤ ((s.r rs1 ^^^ s.op2 o).extractLsb' 0 5).toNat)) .illegalInstruction s <|
      reserved ((s.r rs1 ^^^ s.op2 o).extractLsb' 14 6 != 0) <| .next (s.writePsr (s.r rs1 ^^^ s.op2 o))

/-- WRWIM (R514). -/
def execWrwim (rs1 : Reg) (o : RegOrImm) (s : State) : Result := needSupervisor s (.next (s.writeWim (s.r rs1 ^^^ s.op2 o)))

/-- WRTBR (R515). -/
def execWrtbr (rs1 : Reg) (o : RegOrImm) (s : State) : Result :=
  needSupervisor s <| reserved ((s.r rs1 ^^^ s.op2 o).extractLsb' 0 4 != 0) <|
    .next (s.writeTbr (s.r rs1 ^^^ s.op2 o))

/-- UNIMP (R521). -/
def execUnimp (_const22 : BitVec 22) (s : State) : Result := raise .illegalInstruction s

/-- FLUSH (R522). -/
def execFlush (rs1 : Reg) (o : RegOrImm) (s : State) : Result :=
  match Config.flushTraps with
  | .unimplementedFlush => raise .unimplementedFlush s
  | .illegalInstruction => raise .illegalInstruction s
  | .none => reserved ((s.ea rs1 o).extractLsb' 0 2 != 0) (.next (s.flush (s.ea rs1 o)))

end Sys2Proof.Machine
end

