-- ==== Sys2Proof/Machine/Store.lean ====
section
/-! DEFINITION. Store integer, floating-point and coprocessor (spec/40_load_store.md R219 to R237, R251 to R254). -/

namespace Sys2Proof.Machine

/-- A byte store (R221). -/
def storeByte (s : State) (asi : Asi) (ea : Word) (rd : Reg) : Result :=
  accessOrTrap s asi ea 1 .store (finish (s.store ea [(s.r rd).extractLsb' 0 8]))

/-- A halfword store (R222). -/
def storeHalf (s : State) (asi : Asi) (ea : Word) (rd : Reg) : Result :=
  raiseIf (misaligned 2 ea) .memAddressNotAligned s <|
    accessOrTrap s asi ea 2 .store (finish (s.store ea (halfBytes ((s.r rd).extractLsb' 0 16))))

/-- A word store (R223, R230). -/
def storeWord (s : State) (asi : Asi) (ea v : Word) : Result :=
  raiseIf (misaligned 4 ea) .memAddressNotAligned s <|
    accessOrTrap s asi ea 4 .store (finish (s.store ea (wordBytes v)))

/-- A doubleword store past its checks (R226, R231). A fault of the second word alone may leave the first stored (R113,
log 28). -/
def storePair (s : State) (asi : Asi) (ea hi lo : Word) : Result :=
  access s asi ea 8 .store
    (fun f => raise (dataTrap f) (if s.firstHalfDone asi ea .store then s.store ea (wordBytes hi) else s))
    (finish (s.store ea (wordBytes hi ++ wordBytes lo)))

/-- STD and STDA (R226). -/
def storeDouble (s : State) (asi : Asi) (ea : Word) (rd : Reg) : Result :=
  raiseIf (Config.oddRdTraps && isOdd rd) .illegalInstruction s <|
    raiseIf (misaligned 8 ea) .memAddressNotAligned s <|
      storePair s asi ea (s.r (evenReg rd)) (s.r (oddReg rd))

/-- What STFSR does to ftt once the word is stored (R232). -/
def State.afterStfsr (s : State) : State :=
  if Config.stfsrClearsFtt then { s with fsr := { s.fsr with ftt := 0 } } else s

/-- STB (R221). -/
def execStb (rd rs1 : Reg) (o : RegOrImm) (s : State) : Result := storeByte s s.dasi (s.ea rs1 o) rd

/-- STH (R222). -/
def execSth (rd rs1 : Reg) (o : RegOrImm) (s : State) : Result := storeHalf s s.dasi (s.ea rs1 o) rd

/-- ST (R223). -/
def execSt (rd rs1 : Reg) (o : RegOrImm) (s : State) : Result := storeWord s s.dasi (s.ea rs1 o) (s.r rd)

/-- STD (R226). -/
def execStd (rd rs1 : Reg) (o : RegOrImm) (s : State) : Result := storeDouble s s.dasi (s.ea rs1 o) rd

/-- STBA (R251). -/
def execStba (rd rs1 : Reg) (i : Bool) (asi : Asi) (rs2 : Reg) (s : State) : Result :=
  alternate s i (storeByte s asi (s.eaAlt rs1 rs2) rd)

/-- STHA (R252). -/
def execStha (rd rs1 : Reg) (i : Bool) (asi : Asi) (rs2 : Reg) (s : State) : Result :=
  alternate s i (storeHalf s asi (s.eaAlt rs1 rs2) rd)

/-- STA (R253). -/
def execSta (rd rs1 : Reg) (i : Bool) (asi : Asi) (rs2 : Reg) (s : State) : Result :=
  alternate s i (storeWord s asi (s.eaAlt rs1 rs2) (s.r rd))

/-- STDA (R254). -/
def execStda (rd rs1 : Reg) (i : Bool) (asi : Asi) (rs2 : Reg) (s : State) : Result :=
  alternate s i (storeDouble s asi (s.eaAlt rs1 rs2) rd)

/-- STF (R230). -/
def execStf (rd rs1 : Reg) (o : RegOrImm) (s : State) : Result := needFpu s (storeWord s s.dasi (s.ea rs1 o) (s.fr rd))

/-- STDF (R231). -/
def execStdf (rd rs1 : Reg) (o : RegOrImm) (s : State) : Result :=
  needFpu s <| raiseIf (misaligned 8 (s.ea rs1 o)) .memAddressNotAligned s <| fpRegister .double rd s <|
    storePair s s.dasi (s.ea rs1 o) (s.fr (evenReg rd)) (s.fr (oddReg rd))

/-- STFSR (R232). -/
def execStfsr (_rd rs1 : Reg) (o : RegOrImm) (s : State) : Result :=
  needFpu s <| raiseIf (misaligned 4 (s.ea rs1 o)) .memAddressNotAligned s <|
    accessOrTrap s s.dasi (s.ea rs1 o) 4 .store <|
      finish (s.store (s.ea rs1 o) (wordBytes s.fsrWord)).afterStfsr

/-- STDFQ (R233). -/
def execStdfq (_rd rs1 : Reg) (o : RegOrImm) (s : State) : Result :=
  needSupervisor s <| needFpu s <| raiseIf (misaligned 8 (s.ea rs1 o)) .memAddressNotAligned s <|
    if Config.hasFq && s.fsr.qne then .refused .fpQueueUnspecified else fpTrap 4 s

/-- STC (R234). -/
def execStc (_rd rs1 : Reg) (o : RegOrImm) (s : State) : Result := coprocessorAccess s 4 (s.ea rs1 o)

/-- STDC (R235). -/
def execStdc (_rd rs1 : Reg) (o : RegOrImm) (s : State) : Result := coprocessorAccess s 8 (s.ea rs1 o)

/-- STCSR (R236). -/
def execStcsr (_rd rs1 : Reg) (o : RegOrImm) (s : State) : Result := coprocessorAccess s 4 (s.ea rs1 o)

/-- STDCQ (R237). -/
def execStdcq (_rd rs1 : Reg) (o : RegOrImm) (s : State) : Result := needSupervisor s (coprocessorAccess s 8 (s.ea rs1 o))

end Sys2Proof.Machine
end

