-- ==== Sys2Proof/Machine/Transfer.lean ====
section
/-! DEFINITION. CALL, JMPL, RETT and Ticc (spec/43_window_control_transfer.md R470 to R489). -/

namespace Sys2Proof.Machine

/-- The mark RETT looks for (R716). -/
def State.markJmpl (s : State) : State := { s with haz := { s.haz with prevJmpl := true } }

/-- Whether the address space of the following fetches is open: from a RETT without a JMPL before it until the next trap entry or the
next RETT that completes after a JMPL (R716 gives no end; DESIGN CHOICE, log 11). -/
def State.markFetchSpace (s : State) (b : Bool) : State := { s with haz := { s.haz with fetchSpaceOpen := b } }

/-- `ticc` of R473. -/
def ticc (s : State) (test : Bool) (rs1 : Reg) (o : TrapOperand) : Result :=
  raiseIf test (.trapInstruction (s.trapNumber rs1 o)) s (finish s)

/-- CALL (R470). -/
def execCall (disp30 : BitVec 30) (s : State) : Result := .next ((s.setR 15 s.pc).retire.transfer (callTarget s.pc disp30))

/-- JMPL (R471). -/
def execJmpl (rd rs1 : Reg) (o : RegOrImm) (s : State) : Result :=
  raiseIf (misaligned 4 (s.ea rs1 o)) .memAddressNotAligned s <|
    .next ((s.setR rd s.pc).retire.transfer (s.ea rs1 o)).markJmpl

/-- RETT (R472). DESIGN CHOICE: inside a WRPSR window that changed ET, the ET tested here (`etRead`) and the ET the trap raised here
uses (`trapEt`) are two free bits, so a RETT whose own test found ET = 1 may enter error_mode (R712 names the read and the draw
of `raise` apart; log 6, log 8), and TBR.tt then gets the type of the trap it raised, as R612 has it for every RETT (log 16). DESIGN
CHOICE: a RETT after a JMPL closes the open fetch space of an earlier one (log 11). -/
def execRett (rs1 : Reg) (o : RegOrImm) (s : State) : Result :=
  if s.etRead then raiseFromRett (if s.sRead then .illegalInstruction else .privilegedInstruction) s
  else if !s.sRead then .next (s.rettErrorMode .privilegedInstruction)
  else if s.wimRead.getLsbD (windowAbove s.cwpRead) then .next (s.rettErrorMode .windowUnderflow)
  else if misaligned 4 (s.ea rs1 o) then .next (s.rettErrorMode .memAddressNotAligned)
  else .next ((s.returnFromTrap (windowAbove s.cwpRead) (s.ea rs1 o)).retire.markFetchSpace (!s.haz.prevJmpl))

/-- TA (R474). -/
def execTa (rs1 : Reg) (o : TrapOperand) (s : State) : Result := ticc s true rs1 o

/-- TN (R475). -/
def execTn (rs1 : Reg) (o : TrapOperand) (s : State) : Result := ticc s false rs1 o

/-- TNE (R476). -/
def execTne (rs1 : Reg) (o : TrapOperand) (s : State) : Result := ticc s (!s.iccRead.z) rs1 o

/-- TE (R477). -/
def execTe (rs1 : Reg) (o : TrapOperand) (s : State) : Result := ticc s s.iccRead.z rs1 o

/-- TG (R478). -/
def execTg (rs1 : Reg) (o : TrapOperand) (s : State) : Result := ticc s (!s.iccRead.lessOrEqual) rs1 o

/-- TLE (R479). -/
def execTle (rs1 : Reg) (o : TrapOperand) (s : State) : Result := ticc s s.iccRead.lessOrEqual rs1 o

/-- TGE (R480). -/
def execTge (rs1 : Reg) (o : TrapOperand) (s : State) : Result := ticc s (!s.iccRead.less) rs1 o

/-- TL (R481). -/
def execTl (rs1 : Reg) (o : TrapOperand) (s : State) : Result := ticc s s.iccRead.less rs1 o

/-- TGU (R482). -/
def execTgu (rs1 : Reg) (o : TrapOperand) (s : State) : Result := ticc s (!s.iccRead.lessOrEqualUnsigned) rs1 o

/-- TLEU (R483). -/
def execTleu (rs1 : Reg) (o : TrapOperand) (s : State) : Result := ticc s s.iccRead.lessOrEqualUnsigned rs1 o

/-- TCC (R484). -/
def execTcc (rs1 : Reg) (o : TrapOperand) (s : State) : Result := ticc s (!s.iccRead.c) rs1 o

/-- TCS (R485). -/
def execTcs (rs1 : Reg) (o : TrapOperand) (s : State) : Result := ticc s s.iccRead.c rs1 o

/-- TPOS (R486). -/
def execTpos (rs1 : Reg) (o : TrapOperand) (s : State) : Result := ticc s (!s.iccRead.n) rs1 o

/-- TNEG (R487). -/
def execTneg (rs1 : Reg) (o : TrapOperand) (s : State) : Result := ticc s s.iccRead.n rs1 o

/-- TVC (R488). -/
def execTvc (rs1 : Reg) (o : TrapOperand) (s : State) : Result := ticc s (!s.iccRead.v) rs1 o

/-- TVS (R489). -/
def execTvs (rs1 : Reg) (o : TrapOperand) (s : State) : Result := ticc s s.iccRead.v rs1 o

end Sys2Proof.Machine
end

