-- ==== Sys2Proof/Machine/Window.lean ====
section
/-! DEFINITION. SAVE and RESTORE (spec/43_window_control_transfer.md R400 to R402). -/

namespace Sys2Proof.Machine

/-- SAVE and RESTORE (R400, R401): the WIM test of the new window, then the sum, read in the old window, written in the new. The
sum goes through the window computed here even where a WRPSR window leaves CWP free (log 33). -/
def changeWindow (s : State) (newCwp : Nat) (t : Trap) (rd : Reg) (sum : Word) : Result :=
  raiseIf (s.wimRead.getLsbD newCwp) t s (finish ((s.setRw newCwp rd sum).setCwp newCwp))

/-- SAVE (R400). -/
def execSave (rd rs1 : Reg) (o : RegOrImm) (s : State) : Result :=
  changeWindow s (windowBelow s.cwpRead) .windowOverflow rd (s.r rs1 + s.op2 o)

/-- RESTORE (R401). -/
def execRestore (rd rs1 : Reg) (o : RegOrImm) (s : State) : Result :=
  changeWindow s (windowAbove s.cwpRead) .windowUnderflow rd (s.r rs1 + s.op2 o)

end Sys2Proof.Machine
end

