-- ==== Sys2Proof/Machine/Dispatch.lean ====
section
/-! DEFINITION. The dispatch: one arm per constructor of `Instr`, each one direct call of its meaning. -/

namespace Sys2Proof.Machine

def exec (i : Instr) (s : State) : Host.Outcome State Fault Refusal :=
  match i with
  | .ldsb rd rs1 o => Sys2Proof.Machine.execLdsb rd rs1 o s
  | .ldsh rd rs1 o => Sys2Proof.Machine.execLdsh rd rs1 o s
  | .ldub rd rs1 o => Sys2Proof.Machine.execLdub rd rs1 o s
  | .lduh rd rs1 o => Sys2Proof.Machine.execLduh rd rs1 o s
  | .ld rd rs1 o => Sys2Proof.Machine.execLd rd rs1 o s
  | .ldd rd rs1 o => Sys2Proof.Machine.execLdd rd rs1 o s
  | .ldsba rd rs1 ib asi rs2 => Sys2Proof.Machine.execLdsba rd rs1 ib asi rs2 s
  | .ldsha rd rs1 ib asi rs2 => Sys2Proof.Machine.execLdsha rd rs1 ib asi rs2 s
  | .lduba rd rs1 ib asi rs2 => Sys2Proof.Machine.execLduba rd rs1 ib asi rs2 s
  | .lduha rd rs1 ib asi rs2 => Sys2Proof.Machine.execLduha rd rs1 ib asi rs2 s
  | .lda rd rs1 ib asi rs2 => Sys2Proof.Machine.execLda rd rs1 ib asi rs2 s
  | .ldda rd rs1 ib asi rs2 => Sys2Proof.Machine.execLdda rd rs1 ib asi rs2 s
  | .ldf rd rs1 o => Sys2Proof.Machine.execLdf rd rs1 o s
  | .lddf rd rs1 o => Sys2Proof.Machine.execLddf rd rs1 o s
  | .ldfsr rd rs1 o => Sys2Proof.Machine.execLdfsr rd rs1 o s
  | .ldc rd rs1 o => Sys2Proof.Machine.execLdc rd rs1 o s
  | .lddc rd rs1 o => Sys2Proof.Machine.execLddc rd rs1 o s
  | .ldcsr rd rs1 o => Sys2Proof.Machine.execLdcsr rd rs1 o s
  | .stb rd rs1 o => Sys2Proof.Machine.execStb rd rs1 o s
  | .sth rd rs1 o => Sys2Proof.Machine.execSth rd rs1 o s
  | .st rd rs1 o => Sys2Proof.Machine.execSt rd rs1 o s
  | .std rd rs1 o => Sys2Proof.Machine.execStd rd rs1 o s
  | .stba rd rs1 ib asi rs2 => Sys2Proof.Machine.execStba rd rs1 ib asi rs2 s
  | .stha rd rs1 ib asi rs2 => Sys2Proof.Machine.execStha rd rs1 ib asi rs2 s
  | .sta rd rs1 ib asi rs2 => Sys2Proof.Machine.execSta rd rs1 ib asi rs2 s
  | .stda rd rs1 ib asi rs2 => Sys2Proof.Machine.execStda rd rs1 ib asi rs2 s
  | .stf rd rs1 o => Sys2Proof.Machine.execStf rd rs1 o s
  | .stdf rd rs1 o => Sys2Proof.Machine.execStdf rd rs1 o s
  | .stfsr rd rs1 o => Sys2Proof.Machine.execStfsr rd rs1 o s
  | .stdfq rd rs1 o => Sys2Proof.Machine.execStdfq rd rs1 o s
  | .stc rd rs1 o => Sys2Proof.Machine.execStc rd rs1 o s
  | .stdc rd rs1 o => Sys2Proof.Machine.execStdc rd rs1 o s
  | .stcsr rd rs1 o => Sys2Proof.Machine.execStcsr rd rs1 o s
  | .stdcq rd rs1 o => Sys2Proof.Machine.execStdcq rd rs1 o s
  | .ldstub rd rs1 o => Sys2Proof.Machine.execLdstub rd rs1 o s
  | .ldstuba rd rs1 ib asi rs2 => Sys2Proof.Machine.execLdstuba rd rs1 ib asi rs2 s
  | .swap rd rs1 o => Sys2Proof.Machine.execSwap rd rs1 o s
  | .swapa rd rs1 ib asi rs2 => Sys2Proof.Machine.execSwapa rd rs1 ib asi rs2 s
  | .nop => Sys2Proof.Machine.execNop s
  | .sethi rd imm22 => Sys2Proof.Machine.execSethi rd imm22 s
  | .and rd rs1 o => Sys2Proof.Machine.execAnd rd rs1 o s
  | .andcc rd rs1 o => Sys2Proof.Machine.execAndcc rd rs1 o s
  | .andn rd rs1 o => Sys2Proof.Machine.execAndn rd rs1 o s
  | .andncc rd rs1 o => Sys2Proof.Machine.execAndncc rd rs1 o s
  | .or rd rs1 o => Sys2Proof.Machine.execOr rd rs1 o s
  | .orcc rd rs1 o => Sys2Proof.Machine.execOrcc rd rs1 o s
  | .orn rd rs1 o => Sys2Proof.Machine.execOrn rd rs1 o s
  | .orncc rd rs1 o => Sys2Proof.Machine.execOrncc rd rs1 o s
  | .xor rd rs1 o => Sys2Proof.Machine.execXor rd rs1 o s
  | .xorcc rd rs1 o => Sys2Proof.Machine.execXorcc rd rs1 o s
  | .xnor rd rs1 o => Sys2Proof.Machine.execXnor rd rs1 o s
  | .xnorcc rd rs1 o => Sys2Proof.Machine.execXnorcc rd rs1 o s
  | .sll rd rs1 o => Sys2Proof.Machine.execSll rd rs1 o s
  | .srl rd rs1 o => Sys2Proof.Machine.execSrl rd rs1 o s
  | .sra rd rs1 o => Sys2Proof.Machine.execSra rd rs1 o s
  | .add rd rs1 o => Sys2Proof.Machine.execAdd rd rs1 o s
  | .addcc rd rs1 o => Sys2Proof.Machine.execAddcc rd rs1 o s
  | .addx rd rs1 o => Sys2Proof.Machine.execAddx rd rs1 o s
  | .addxcc rd rs1 o => Sys2Proof.Machine.execAddxcc rd rs1 o s
  | .taddcc rd rs1 o => Sys2Proof.Machine.execTaddcc rd rs1 o s
  | .taddcctv rd rs1 o => Sys2Proof.Machine.execTaddcctv rd rs1 o s
  | .sub rd rs1 o => Sys2Proof.Machine.execSub rd rs1 o s
  | .subcc rd rs1 o => Sys2Proof.Machine.execSubcc rd rs1 o s
  | .subx rd rs1 o => Sys2Proof.Machine.execSubx rd rs1 o s
  | .subxcc rd rs1 o => Sys2Proof.Machine.execSubxcc rd rs1 o s
  | .tsubcc rd rs1 o => Sys2Proof.Machine.execTsubcc rd rs1 o s
  | .tsubcctv rd rs1 o => Sys2Proof.Machine.execTsubcctv rd rs1 o s
  | .mulscc rd rs1 o => Sys2Proof.Machine.execMulscc rd rs1 o s
  | .umul rd rs1 o => Sys2Proof.Machine.execUmul rd rs1 o s
  | .smul rd rs1 o => Sys2Proof.Machine.execSmul rd rs1 o s
  | .umulcc rd rs1 o => Sys2Proof.Machine.execUmulcc rd rs1 o s
  | .smulcc rd rs1 o => Sys2Proof.Machine.execSmulcc rd rs1 o s
  | .udiv rd rs1 o => Sys2Proof.Machine.execUdiv rd rs1 o s
  | .sdiv rd rs1 o => Sys2Proof.Machine.execSdiv rd rs1 o s
  | .udivcc rd rs1 o => Sys2Proof.Machine.execUdivcc rd rs1 o s
  | .sdivcc rd rs1 o => Sys2Proof.Machine.execSdivcc rd rs1 o s
  | .save rd rs1 o => Sys2Proof.Machine.execSave rd rs1 o s
  | .restore rd rs1 o => Sys2Proof.Machine.execRestore rd rs1 o s
  | .ba a disp22 => Sys2Proof.Machine.execBa a disp22 s
  | .bn a disp22 => Sys2Proof.Machine.execBn a disp22 s
  | .bne a disp22 => Sys2Proof.Machine.execBne a disp22 s
  | .be a disp22 => Sys2Proof.Machine.execBe a disp22 s
  | .bg a disp22 => Sys2Proof.Machine.execBg a disp22 s
  | .ble a disp22 => Sys2Proof.Machine.execBle a disp22 s
  | .bge a disp22 => Sys2Proof.Machine.execBge a disp22 s
  | .bl a disp22 => Sys2Proof.Machine.execBl a disp22 s
  | .bgu a disp22 => Sys2Proof.Machine.execBgu a disp22 s
  | .bleu a disp22 => Sys2Proof.Machine.execBleu a disp22 s
  | .bcc a disp22 => Sys2Proof.Machine.execBcc a disp22 s
  | .bcs a disp22 => Sys2Proof.Machine.execBcs a disp22 s
  | .bpos a disp22 => Sys2Proof.Machine.execBpos a disp22 s
  | .bneg a disp22 => Sys2Proof.Machine.execBneg a disp22 s
  | .bvc a disp22 => Sys2Proof.Machine.execBvc a disp22 s
  | .bvs a disp22 => Sys2Proof.Machine.execBvs a disp22 s
  | .fba a disp22 => Sys2Proof.Machine.execFba a disp22 s
  | .fbn a disp22 => Sys2Proof.Machine.execFbn a disp22 s
  | .fbu a disp22 => Sys2Proof.Machine.execFbu a disp22 s
  | .fbg a disp22 => Sys2Proof.Machine.execFbg a disp22 s
  | .fbug a disp22 => Sys2Proof.Machine.execFbug a disp22 s
  | .fbl a disp22 => Sys2Proof.Machine.execFbl a disp22 s
  | .fbul a disp22 => Sys2Proof.Machine.execFbul a disp22 s
  | .fblg a disp22 => Sys2Proof.Machine.execFblg a disp22 s
  | .fbne a disp22 => Sys2Proof.Machine.execFbne a disp22 s
  | .fbe a disp22 => Sys2Proof.Machine.execFbe a disp22 s
  | .fbue a disp22 => Sys2Proof.Machine.execFbue a disp22 s
  | .fbge a disp22 => Sys2Proof.Machine.execFbge a disp22 s
  | .fbuge a disp22 => Sys2Proof.Machine.execFbuge a disp22 s
  | .fble a disp22 => Sys2Proof.Machine.execFble a disp22 s
  | .fbule a disp22 => Sys2Proof.Machine.execFbule a disp22 s
  | .fbo a disp22 => Sys2Proof.Machine.execFbo a disp22 s
  | .cba a disp22 => Sys2Proof.Machine.execCba a disp22 s
  | .cbn a disp22 => Sys2Proof.Machine.execCbn a disp22 s
  | .cb3 a disp22 => Sys2Proof.Machine.execCb3 a disp22 s
  | .cb2 a disp22 => Sys2Proof.Machine.execCb2 a disp22 s
  | .cb23 a disp22 => Sys2Proof.Machine.execCb23 a disp22 s
  | .cb1 a disp22 => Sys2Proof.Machine.execCb1 a disp22 s
  | .cb13 a disp22 => Sys2Proof.Machine.execCb13 a disp22 s
  | .cb12 a disp22 => Sys2Proof.Machine.execCb12 a disp22 s
  | .cb123 a disp22 => Sys2Proof.Machine.execCb123 a disp22 s
  | .cb0 a disp22 => Sys2Proof.Machine.execCb0 a disp22 s
  | .cb03 a disp22 => Sys2Proof.Machine.execCb03 a disp22 s
  | .cb02 a disp22 => Sys2Proof.Machine.execCb02 a disp22 s
  | .cb023 a disp22 => Sys2Proof.Machine.execCb023 a disp22 s
  | .cb01 a disp22 => Sys2Proof.Machine.execCb01 a disp22 s
  | .cb013 a disp22 => Sys2Proof.Machine.execCb013 a disp22 s
  | .cb012 a disp22 => Sys2Proof.Machine.execCb012 a disp22 s
  | .call disp30 => Sys2Proof.Machine.execCall disp30 s
  | .jmpl rd rs1 o => Sys2Proof.Machine.execJmpl rd rs1 o s
  | .rett rs1 o => Sys2Proof.Machine.execRett rs1 o s
  | .ta rs1 o => Sys2Proof.Machine.execTa rs1 o s
  | .tn rs1 o => Sys2Proof.Machine.execTn rs1 o s
  | .tne rs1 o => Sys2Proof.Machine.execTne rs1 o s
  | .te rs1 o => Sys2Proof.Machine.execTe rs1 o s
  | .tg rs1 o => Sys2Proof.Machine.execTg rs1 o s
  | .tle rs1 o => Sys2Proof.Machine.execTle rs1 o s
  | .tge rs1 o => Sys2Proof.Machine.execTge rs1 o s
  | .tl rs1 o => Sys2Proof.Machine.execTl rs1 o s
  | .tgu rs1 o => Sys2Proof.Machine.execTgu rs1 o s
  | .tleu rs1 o => Sys2Proof.Machine.execTleu rs1 o s
  | .tcc rs1 o => Sys2Proof.Machine.execTcc rs1 o s
  | .tcs rs1 o => Sys2Proof.Machine.execTcs rs1 o s
  | .tpos rs1 o => Sys2Proof.Machine.execTpos rs1 o s
  | .tneg rs1 o => Sys2Proof.Machine.execTneg rs1 o s
  | .tvc rs1 o => Sys2Proof.Machine.execTvc rs1 o s
  | .tvs rs1 o => Sys2Proof.Machine.execTvs rs1 o s
  | .rdy rd => Sys2Proof.Machine.execRdy rd s
  | .stbar => Sys2Proof.Machine.execStbar s
  | .rdasr rd rs1 => Sys2Proof.Machine.execRdasr rd rs1 s
  | .rdpsr rd => Sys2Proof.Machine.execRdpsr rd s
  | .rdwim rd => Sys2Proof.Machine.execRdwim rd s
  | .rdtbr rd => Sys2Proof.Machine.execRdtbr rd s
  | .wry rs1 o => Sys2Proof.Machine.execWry rs1 o s
  | .wrasr rd rs1 o => Sys2Proof.Machine.execWrasr rd rs1 o s
  | .wrpsr rs1 o => Sys2Proof.Machine.execWrpsr rs1 o s
  | .wrwim rs1 o => Sys2Proof.Machine.execWrwim rs1 o s
  | .wrtbr rs1 o => Sys2Proof.Machine.execWrtbr rs1 o s
  | .unimp const22 => Sys2Proof.Machine.execUnimp const22 s
  | .flush rs1 o => Sys2Proof.Machine.execFlush rs1 o s
  | .fitos rd rs2 => Sys2Proof.Machine.execFitos rd rs2 s
  | .fitod rd rs2 => Sys2Proof.Machine.execFitod rd rs2 s
  | .fitoq rd rs2 => Sys2Proof.Machine.execFitoq rd rs2 s
  | .fstoi rd rs2 => Sys2Proof.Machine.execFstoi rd rs2 s
  | .fdtoi rd rs2 => Sys2Proof.Machine.execFdtoi rd rs2 s
  | .fqtoi rd rs2 => Sys2Proof.Machine.execFqtoi rd rs2 s
  | .fstod rd rs2 => Sys2Proof.Machine.execFstod rd rs2 s
  | .fstoq rd rs2 => Sys2Proof.Machine.execFstoq rd rs2 s
  | .fdtos rd rs2 => Sys2Proof.Machine.execFdtos rd rs2 s
  | .fdtoq rd rs2 => Sys2Proof.Machine.execFdtoq rd rs2 s
  | .fqtos rd rs2 => Sys2Proof.Machine.execFqtos rd rs2 s
  | .fqtod rd rs2 => Sys2Proof.Machine.execFqtod rd rs2 s
  | .fmovs rd rs2 => Sys2Proof.Machine.execFmovs rd rs2 s
  | .fnegs rd rs2 => Sys2Proof.Machine.execFnegs rd rs2 s
  | .fabss rd rs2 => Sys2Proof.Machine.execFabss rd rs2 s
  | .fsqrts rd rs2 => Sys2Proof.Machine.execFsqrts rd rs2 s
  | .fsqrtd rd rs2 => Sys2Proof.Machine.execFsqrtd rd rs2 s
  | .fsqrtq rd rs2 => Sys2Proof.Machine.execFsqrtq rd rs2 s
  | .fadds rd rs1 rs2 => Sys2Proof.Machine.execFadds rd rs1 rs2 s
  | .faddd rd rs1 rs2 => Sys2Proof.Machine.execFaddd rd rs1 rs2 s
  | .faddq rd rs1 rs2 => Sys2Proof.Machine.execFaddq rd rs1 rs2 s
  | .fsubs rd rs1 rs2 => Sys2Proof.Machine.execFsubs rd rs1 rs2 s
  | .fsubd rd rs1 rs2 => Sys2Proof.Machine.execFsubd rd rs1 rs2 s
  | .fsubq rd rs1 rs2 => Sys2Proof.Machine.execFsubq rd rs1 rs2 s
  | .fmuls rd rs1 rs2 => Sys2Proof.Machine.execFmuls rd rs1 rs2 s
  | .fmuld rd rs1 rs2 => Sys2Proof.Machine.execFmuld rd rs1 rs2 s
  | .fmulq rd rs1 rs2 => Sys2Proof.Machine.execFmulq rd rs1 rs2 s
  | .fsmuld rd rs1 rs2 => Sys2Proof.Machine.execFsmuld rd rs1 rs2 s
  | .fdmulq rd rs1 rs2 => Sys2Proof.Machine.execFdmulq rd rs1 rs2 s
  | .fdivs rd rs1 rs2 => Sys2Proof.Machine.execFdivs rd rs1 rs2 s
  | .fdivd rd rs1 rs2 => Sys2Proof.Machine.execFdivd rd rs1 rs2 s
  | .fdivq rd rs1 rs2 => Sys2Proof.Machine.execFdivq rd rs1 rs2 s
  | .fcmps rs1 rs2 => Sys2Proof.Machine.execFcmps rs1 rs2 s
  | .fcmpd rs1 rs2 => Sys2Proof.Machine.execFcmpd rs1 rs2 s
  | .fcmpq rs1 rs2 => Sys2Proof.Machine.execFcmpq rs1 rs2 s
  | .fcmpes rs1 rs2 => Sys2Proof.Machine.execFcmpes rs1 rs2 s
  | .fcmped rs1 rs2 => Sys2Proof.Machine.execFcmped rs1 rs2 s
  | .fcmpeq rs1 rs2 => Sys2Proof.Machine.execFcmpeq rs1 rs2 s
  | .cpop1 rd rs1 opc rs2 => Sys2Proof.Machine.execCpop1 rd rs1 opc rs2 s
  | .cpop2 rd rs1 opc rs2 => Sys2Proof.Machine.execCpop2 rd rs1 opc rs2 s

end Sys2Proof.Machine
end

