-- ==== Sys2Proof/Machine/Cycle.lean ====
section
/-! DEFINITION. The instruction cycle (spec/10_state.md R31): the interrupt test, the fetch, decoding, execution. -/

namespace Sys2Proof.Machine

/-- The interrupt request level presented at this step (R620). -/
def State.requestLevel (s : State) : BitVec 4 := s.irl.headD 0

/-- The acceptance test of R620 for a given PIL: ET = 1 and (IRL = 15 or IRL > PIL). -/
def State.accepts (s : State) (pil : BitVec 4) : Bool :=
  s.psr.et && (s.requestLevel == 15 || decide (pil.toNat < s.requestLevel.toNat))

/-- This quirk leaves the step's request open (R620): the request is at the old PIL, or the old and the new PIL answer it
differently. DESIGN CHOICE: "the new PIL" is PSR.PIL at the step, also where a later WRPSR wrote it (log 18). -/
def State.quirkCovers (s : State) (q : PilQuirk) : Bool :=
  decide (0 < q.count) && (s.accepts q.old != s.accepts s.psr.pil || s.requestLevel == q.old)

/-- A PIL and ET quirk makes this step's interrupt a draw (R620, log 18). DESIGN CHOICE: with ET = 0 nothing is drawn, since an
interrupt request is then ignored (log 18). -/
def State.quirkDraws (s : State) : Bool :=
  s.psr.et && s.requestLevel != 0 && s.haz.pilQuirks.any s.quirkCovers

/-- The interrupt is taken at this step (R620); the test uses the ET and PIL of the PSR at once (R712). -/
def State.interruptTaken (s : State) : Bool :=
  if s.quirkDraws then Config.drawPilQuirk s.freeCount else s.accepts s.psr.pil

/-- The mode whose instruction space the fetch uses: the new S at once (R101, R712), or open after a RETT without JMPL (R716,
log 11). -/
def State.fetchS (s : State) : Bool := if s.haz.fetchSpaceOpen then Config.drawFetchS s.freeCount else s.psr.s

/-- `iasi` (R101). -/
def State.iasi (s : State) : Asi := if s.fetchS then Config.asiSuperInstr else Config.asiUserInstr

/-- PC lies in a doubleword stored to and not yet flushed (R125). -/
def State.staleFetch (s : State) : Bool := (flushFind s.flushPending (doublewordOf s.pc)).isSome

/-- The word a fetch returns: the four bytes at PC, or an undefined word from a stale doubleword (R106, R125, log 12). -/
def State.fetchedWord (s : State) : Word := if s.staleFetch then Config.freeFetchWord s.freeCount else s.word s.pc

/-- Decode and execute a fetched word (R31, R160, R162). -/
def execWord (w : Word) (s : State) : Result :=
  match decodeWord w with
  | .ok i => reserved (encode i != w) (exec i s)
  | .error rej => execUnassigned rej s

/-- The fetch and what follows it (R31, R106, R112). DESIGN CHOICE: MemFault is asked before the coherence of the doubleword, so a
fetch that it faults from a doubleword on `flushPending` takes the instruction access trap. R104 raises that fault, R125 says "no
result, no trap", and no rule orders the two (log 12). -/
def fetchExecute (s : State) : Result :=
  match s.memFault s.iasi s.pc 4 .fetch with
  | some f => raise (fetchTrap f) s
  | none => execWord s.fetchedWord s

/-- One step of a processor that is not halted (R31). -/
def cycle (s : State) : Result :=
  if s.interruptTaken then .next (s.trapEntry (trapType (.interrupt s.requestLevel))) else fetchExecute s

/-- The step is over: the next request level, the next free values (log 17, log 34). -/
def State.tick (s : State) : State := { s with irl := s.irl.tail, freeCount := s.freeCount + 1 }

/-- A result with its state ticked. -/
def tickResult : Result → Result
  | .next s => .next s.tick
  | .fault f => .fault f
  | .refused r => .refused r

/-- Memory with the word `v` at `a`, big-endian, coherent for fetches: a program word loaded from outside (log 5). -/
def State.placeWord (s : State) (a v : Word) : State :=
  { s with mem := memWriteBytes s.mem a (wordBytes v), flushPending := flushErase s.flushPending (doublewordOf a) }

end Sys2Proof.Machine
end

