-- ==== Sys2Proof/Machine/Step.lean ====
section
/-! DEFINITION. The step of the machine (spec/10_state.md R31), and placing a word where it fetches. -/

namespace Sys2Proof.Machine

/-- One step: none in error_mode (R612), else the cycle of R31. -/
def step (s : State) : Host.Outcome State Fault Refusal :=
  if s.errorMode then .fault .haltedInErrorMode else tickResult (cycle s)

/-- `s` with the table's word `w` stored at PC, clean of stale copies (log 5). -/
def State.withFetchWord (s : State) (nbits w : Nat) : State := s.placeWord s.pc (BitVec.ofNat 32 (w % 2 ^ nbits))

end Sys2Proof.Machine
end

