-- ==== Sys2Proof/Safety.lean ====
section
/-! DEFINITION. What the statements speak of: the invariant of the machine, the states no hazard touches, and what "nothing else
changes" means. -/

namespace Sys2Proof.Machine

/-! ### The invariant -/

/-- The canonical form of the flush list: doubleword addresses strictly rising, countdowns between 1 and the latency (R125). -/
def flushWf : List (Nat × FlushStatus) → Prop
  | [] => True
  | (d, f) :: l => d % 8 = 0 ∧ (∀ k, f = .counting k → 0 < k ∧ k ≤ Config.flushLatency) ∧ (∀ e ∈ l, d < e.1) ∧ flushWf l

/-- A word address: the two low bits are zero (R30). -/
def wordAligned (a : Word) : Prop := a.extractLsb' 0 2 = 0

/-- What holds of every state a run from reset reaches (R30, R44, R48, R50, R72, R110, R125, R712, R713). -/
structure State.Inv (s : State) : Prop where
  /-- memory is in canonical form -/
  mem : memWf s.mem = true
  /-- the flush list is in canonical form -/
  flush : flushWf s.flushPending
  /-- PC is a multiple of 4 (R30) -/
  pc : wordAligned s.pc
  /-- nPC is a multiple of 4 (R30) -/
  npc : wordAligned s.npc
  /-- CWP is below NWINDOWS (R48) -/
  cwp : s.psr.cwp.toNat < Config.nwindows
  /-- the old CWP a WRPSR window keeps is below NWINDOWS -/
  oldCwp : ∀ w, s.haz.psr.cwp = some w → w.toNat < Config.nwindows
  /-- the bits of WIM for unimplemented windows are 0 (R50) -/
  wim : wimMask &&& s.wim = s.wim
  /-- EC is 0 without a coprocessor (R44) -/
  ec : Config.hasCp = false → s.psr.ec = false
  /-- EF is 0 without an FPU (R44) -/
  ef : Config.hasFpu = false → s.psr.ef = false
  /-- qne is 0 without an FQ (R72) -/
  qne : Config.hasFq = false → s.fsr.qne = false
  /-- no window covers more than three instructions (R712, R713) -/
  counts : s.haz.psr.count ≤ 3 ∧ s.haz.wim.count ≤ 3 ∧ s.haz.tbr.count ≤ 3 ∧ s.haz.y.count ≤ 3 ∧ s.haz.ldfsrCount ≤ 3
    ∧ ∀ q ∈ s.haz.pilQuirks, 0 < q.count ∧ q.count ≤ 3

/-! ### States no hazard touches -/

/-- No delayed-write window is open (R712): every register reads as it is. -/
structure State.Settled (s : State) : Prop where
  psr : s.haz.psr.count = 0
  wim : s.haz.wim.count = 0
  tbr : s.haz.tbr.count = 0
  y : s.haz.y.count = 0

/-- The window CWP names. -/
abbrev State.window (s : State) : Nat := s.psr.cwp.toNat

/-! ### What an instruction leaves unchanged -/

/-- r[i] of window w and r[j] of window v are one register (R23). -/
def sameReg (w : Nat) (i : Reg) (v : Nat) (j : Reg) : Prop :=
  if i.toNat < 8 then i = j else 8 ≤ j.toNat ∧ State.slot w i = State.slot v j

/-- Every r register, seen through every window, keeps its value but r[i] of window `w`. -/
def regsKeptBut (s t : State) (w : Nat) (i : Reg) : Prop := ∀ v j, ¬ sameReg w i v j → t.rw v j = s.rw v j

/-- Every r register keeps its value. -/
def regsKept (s t : State) : Prop := ∀ v j, t.rw v j = s.rw v j

/-- Every byte of memory keeps its value. -/
def memKept (s t : State) : Prop := ∀ a, t.byte a = s.byte a

/-- Every byte of memory outside the `n` bytes at `ea` keeps its value. -/
def memKeptBut (s t : State) (ea : Word) (n : Nat) : Prop :=
  ∀ a, (∀ k < n, a ≠ ea + BitVec.ofNat 32 k) → t.byte a = s.byte a

/-- Every f register keeps its value. -/
def fpKept (s t : State) : Prop := ∀ i, t.fr i = s.fr i

/-- WIM, TBR, the mode of halting, the platform's inputs and the model's own counter keep their values. -/
def systemKept (s t : State) : Prop :=
  t.wim = s.wim ∧ t.tbr = s.tbr ∧ t.errorMode = s.errorMode ∧ t.memFaults = s.memFaults ∧ t.irl = s.irl
    ∧ t.freeCount = s.freeCount

/-- The instruction completed in sequence: PC and nPC advanced (R32). -/
def sequential (s t : State) : Prop := t.pc = s.npc ∧ t.npc = s.npc + 4

/-- r[rd] of window `w` holds `v`, or, with rd = 0, 0 (R25), and every other r register keeps its value. -/
def writesReg (s t : State) (w : Nat) (rd : Reg) (v : Word) : Prop :=
  t.rw w rd = (if rd = 0 then 0 else v) ∧ regsKeptBut s t w rd

/-- The f registers and the FSR keep their values. -/
def fpuKept (s t : State) : Prop := fpKept s t ∧ t.fsr = s.fsr

/-- Memory, the FPU and the system registers keep their values, and the hazards are one instruction older (R714): the frame of
an instruction of the integer unit that neither loads nor stores. -/
def integerFrame (s t : State) : Prop :=
  memKept s t ∧ fpuKept s t ∧ systemKept s t ∧ t.haz = s.haz.age ∧ t.flushPending = flushAge s.flushPending

/-- The r registers, the PSR, Y, memory and the system registers keep their values: the frame of an FPop, but for the hazards. -/
def fpopFrame (s t : State) : Prop :=
  regsKept s t ∧ t.psr = s.psr ∧ t.y = s.y ∧ memKept s t ∧ systemKept s t

/-- The f registers of the destination of format `fmt` numbered `rd` hold `bits`; every other f register keeps its value
(R542). -/
def writesFp (s t : State) (fmt : FpFormat) (rd : Reg) (bits : Nat) : Prop :=
  match fmt with
  | .single => t.fr rd = BitVec.ofNat 32 bits ∧ ∀ i, i ≠ rd → t.fr i = s.fr i
  | .double => t.frD rd = BitVec.ofNat 64 bits ∧ ∀ i, i ≠ evenReg rd → i ≠ oddReg rd → t.fr i = s.fr i
  | .quad => t.frQ rd = BitVec.ofNat 128 bits ∧ ∀ i, (∀ k, k.toNat < 4 → i ≠ quadReg rd k) → t.fr i = s.fr i

/-- `r` is what raising trap `t` from `s` gives (R601): the trap entry of `s` with traps enabled, error_mode with traps
disabled. -/
def traps (r : Result) (t : Trap) (s : State) : Prop :=
  (s.trapEt = true → r = .next (s.trapEntry (trapType t))) ∧ (s.trapEt = false → r = .next s.enterErrorMode)

/-- What a trap inside a WR window uses of a field: where the write changed it the old value or the new, as the draw says (R712 items
4 and 5, log 8); elsewhere the field as it is. -/
def drawnValue {α : Type} (count : Nat) (old : Option α) (draw : Bool) (new : α) : α :=
  match old with
  | some v => if 0 < count ∧ draw = true then v else new
  | none => new

/-! ### Where an instruction stores -/

/-- The address and the number of bytes an instruction may store to; none for an instruction that stores nothing. -/
def storeRange (i : Instr) (s : State) : Option (Word × Nat) :=
  match i with
  | .stb _ rs1 o => some (s.ea rs1 o, 1)
  | .sth _ rs1 o => some (s.ea rs1 o, 2)
  | .st _ rs1 o => some (s.ea rs1 o, 4)
  | .std _ rs1 o => some (s.ea rs1 o, 8)
  | .stba _ rs1 _ _ rs2 => some (s.eaAlt rs1 rs2, 1)
  | .stha _ rs1 _ _ rs2 => some (s.eaAlt rs1 rs2, 2)
  | .sta _ rs1 _ _ rs2 => some (s.eaAlt rs1 rs2, 4)
  | .stda _ rs1 _ _ rs2 => some (s.eaAlt rs1 rs2, 8)
  | .stf _ rs1 o => some (s.ea rs1 o, 4)
  | .stdf _ rs1 o => some (s.ea rs1 o, 8)
  | .stfsr _ rs1 o => some (s.ea rs1 o, 4)
  | .ldstub _ rs1 o => some (s.ea rs1 o, 1)
  | .ldstuba _ rs1 _ _ rs2 => some (s.eaAlt rs1 rs2, 1)
  | .swap _ rs1 o => some (s.ea rs1 o, 4)
  | .swapa _ rs1 _ _ rs2 => some (s.eaAlt rs1 rs2, 4)
  | _ => none

/-! ### Hazards (70_reset_and_hazards.md section 2) -/

/-- A conditional Bicc or FBfcc: the branches that leave the mark of R716. A CBccc leaves none: it traps (log 27). -/
def isConditionalBranch (i : Instr) : Bool :=
  match i with
  | .bne _ _ | .be _ _ | .bg _ _ | .ble _ _ | .bge _ _ | .bl _ _ | .bgu _ _ | .bleu _ _ | .bcc _ _ | .bcs _ _ | .bpos _ _
  | .bneg _ _ | .bvc _ _ | .bvs _ _ => true
  | .fbu _ _ | .fbg _ _ | .fbug _ _ | .fbl _ _ | .fbul _ _ | .fblg _ _ | .fbne _ _ | .fbe _ _ | .fbue _ _ | .fbge _ _
  | .fbuge _ _ | .fble _ _ | .fbule _ _ | .fbo _ _ => true
  | _ => false

/-- An FPop2: the compares (R713). -/
def isCompare (i : Instr) : Bool :=
  match i with
  | .fcmps _ _ | .fcmpd _ _ | .fcmpq _ _ | .fcmpes _ _ | .fcmped _ _ | .fcmpeq _ _ => true
  | _ => false

/-- JMPL: the instruction RETT looks for (R716). -/
def isJmpl (i : Instr) : Bool :=
  match i with
  | .jmpl _ _ _ => true
  | _ => false

/-- What a window keeps of a field after its WR instruction (`open_wr_window` of R712): the old value it kept while open, else the
value before this write if the write changed it. -/
def keepsOld {α : Type} (count : Nat) (kept after : Option α) (old new : α) : Prop :=
  (0 < count → kept.isSome → after = kept)
    ∧ (count = 0 ∨ kept = none → (old = new → after = none) ∧ (old ≠ new → after = some old))

/-- A request is accepted at this PIL with ET = 1 (R620). -/
def accepted (pil level : BitVec 4) : Prop := level = 15 ∨ pil.toNat < level.toNat

/-- An open quirk of WRPSR leaves it open whether a request at this level is taken (R620): the request is at its old PIL, or its
old PIL and PSR.PIL at the step answer it differently (log 18). -/
def quirkOpen (s : State) (level : BitVec 4) : Prop :=
  level ≠ 0 ∧ ∃ q ∈ s.haz.pilQuirks, 0 < q.count ∧ (q.old = level ∨ ¬ (accepted q.old level ↔ accepted s.psr.pil level))

/-! ### Shapes of the statements -/

/-- The PSR after an instruction that writes `c` to icc (R712 item 1: free inside a WRPSR window, log 7). -/
def psrWithIcc (s : State) (c : Icc) : Psr :=
  { s.psr with icc := if s.haz.psr.count = 0 then c else iccOfBits (Config.freeIccWrite s.freeCount) }

/-- Y after an instruction that writes `v` to Y (R712 item 1: free inside a WRY window, log 7). -/
def yWith (s : State) (v : Word) : Word := if s.haz.y.count = 0 then v else Config.freeYWrite s.freeCount

/-- PC and nPC after a branch: the table of R34. -/
def branchCase (s t : State) (taken unconditional a : Bool) (target : Word) : Prop :=
  (t.pc, t.npc) =
    match taken, unconditional, a with
    | false, _, false => (s.npc, s.npc + 4)
    | true, false, _ => (s.npc, target)
    | true, true, false => (s.npc, target)
    | false, _, true => (s.npc + 4, s.npc + 8)
    | true, true, true => (target, target + 4)

/-- A branch writes nothing but PC, nPC and the mark of R716. -/
def branchFrame (s t : State) (mark : Bool) : Prop :=
  regsKept s t ∧ t.psr = s.psr ∧ t.y = s.y ∧ memKept s t ∧ fpuKept s t ∧ systemKept s t
    ∧ t.haz = { s.haz.age with prevCondBranch := mark } ∧ t.flushPending = flushAge s.flushPending

/-- The doubleword of a store or atomic at `ea` is dirty; every other is as after any instruction (R125, R714). -/
def marksDoubleword (s t : State) (ea : Word) : Prop :=
  flushFind t.flushPending (doublewordOf ea) = some .dirty
    ∧ ∀ d, d ≠ doublewordOf ea → flushFind t.flushPending d = flushFind (flushAge s.flushPending) d

/-- A store writes memory only, and marks the doubleword. -/
def storeFrame (s t : State) (ea : Word) : Prop :=
  regsKept s t ∧ t.psr = s.psr ∧ t.y = s.y ∧ fpuKept s t ∧ systemKept s t ∧ t.haz = s.haz.age ∧ marksDoubleword s t ea

/-- r[rd] and r[rd + 1] of window `w`, rd even, hold `hi` and `lo`; every other r register keeps its value (R27). -/
def writesPair (s t : State) (w : Nat) (rd : Reg) (hi lo : Word) : Prop :=
  t.rw w rd = (if rd = 0 then 0 else hi) ∧ t.rw w (oddReg rd) = lo
    ∧ ∀ v j, ¬ sameReg w rd v j → ¬ sameReg w (oddReg rd) v j → t.rw v j = s.rw v j

/-- An FPop1 as R544 and its rule give it: whether a register number is misaligned, the exceptions it can raise, its destination,
and the standard result. -/
structure FpopSpec where
  misaligned : Bool
  allowed : FpExc
  dst : FpFormat
  rd : Reg
  result : FpResult
  deriving DecidableEq, Repr

/-- An FPop1 of one source. -/
def unarySpec (s : State) (opf : BitVec 9) (fmt dst : FpFormat) (rd rs2 : Reg) (allowed : FpExc) (f : NanSource → FpResult) :
    Option FpopSpec :=
  some { misaligned := fpMisaligned fmt rs2 || fpMisaligned dst rd, allowed := allowed, dst := dst, rd := rd,
         result := f { opf := opf, rnd := s.fsr.rd, x := 0, y := s.fpOperand fmt rs2 } }

/-- An FPop1 of two sources. -/
def binarySpec (s : State) (opf : BitVec 9) (fmt dst : FpFormat) (rd rs1 rs2 : Reg) (allowed : FpExc)
    (f : NanSource → FpResult) : Option FpopSpec :=
  some { misaligned := fpMisaligned fmt rs1 || fpMisaligned fmt rs2 || fpMisaligned dst rd, allowed := allowed, dst := dst,
         rd := rd, result := f { opf := opf, rnd := s.fsr.rd, x := s.fpOperand fmt rs1, y := s.fpOperand fmt rs2 } }

/-- Every exception an addition, a multiplication or a narrowing can raise. -/
def excArith : FpExc := excNV ||| excOF ||| excUF ||| excNX

/-- The 32 FPop1 instructions (R544), FSR.NS aside. -/
def fpopSpec (s : State) (i : Instr) : Option FpopSpec :=
  let u := s.underflowTrap
  match i with
  | .fitos rd rs2 => unarySpec s 0x0C4 .single .single rd rs2 excNX (fun x => fpFromInt .single x.rnd (BitVec.ofNat 32 x.y))
  | .fitod rd rs2 => unarySpec s 0x0C8 .single .double rd rs2 excNone (fun x => fpFromInt .double x.rnd (BitVec.ofNat 32 x.y))
  | .fitoq rd rs2 => unarySpec s 0x0CC .single .quad rd rs2 excNone (fun x => fpFromInt .quad x.rnd (BitVec.ofNat 32 x.y))
  | .fstoi rd rs2 => unarySpec s 0x0D1 .single .single rd rs2 (excNV ||| excNX) (fun x => fpToInt .single 0x0D1 x.y)
  | .fdtoi rd rs2 => unarySpec s 0x0D2 .double .single rd rs2 (excNV ||| excNX) (fun x => fpToInt .double 0x0D2 x.y)
  | .fqtoi rd rs2 => unarySpec s 0x0D3 .quad .single rd rs2 (excNV ||| excNX) (fun x => fpToInt .quad 0x0D3 x.y)
  | .fstod rd rs2 => unarySpec s 0x0C9 .single .double rd rs2 excNV (fun x => fpConvert .single .double x.rnd u x)
  | .fstoq rd rs2 => unarySpec s 0x0CD .single .quad rd rs2 excNV (fun x => fpConvert .single .quad x.rnd u x)
  | .fdtos rd rs2 => unarySpec s 0x0C6 .double .single rd rs2 excArith (fun x => fpConvert .double .single x.rnd u x)
  | .fdtoq rd rs2 => unarySpec s 0x0CE .double .quad rd rs2 excNV (fun x => fpConvert .double .quad x.rnd u x)
  | .fqtos rd rs2 => unarySpec s 0x0C7 .quad .single rd rs2 excArith (fun x => fpConvert .quad .single x.rnd u x)
  | .fqtod rd rs2 => unarySpec s 0x0CB .quad .double rd rs2 excArith (fun x => fpConvert .quad .double x.rnd u x)
  | .fmovs rd rs2 => unarySpec s 0x001 .single .single rd rs2 excNone (fun x => ⟨x.y, excNone⟩)
  | .fnegs rd rs2 => unarySpec s 0x005 .single .single rd rs2 excNone (fun _ => ⟨(s.fr rs2 ^^^ 0x80000000#32).toNat, excNone⟩)
  | .fabss rd rs2 => unarySpec s 0x009 .single .single rd rs2 excNone (fun _ => ⟨(s.fr rs2 &&& 0x7FFFFFFF#32).toNat, excNone⟩)
  | .fsqrts rd rs2 => unarySpec s 0x029 .single .single rd rs2 (excNV ||| excNX) (fun x => fpSqrt .single x.rnd x)
  | .fsqrtd rd rs2 => unarySpec s 0x02A .double .double rd rs2 (excNV ||| excNX) (fun x => fpSqrt .double x.rnd x)
  | .fsqrtq rd rs2 => unarySpec s 0x02B .quad .quad rd rs2 (excNV ||| excNX) (fun x => fpSqrt .quad x.rnd x)
  | .fadds rd rs1 rs2 => binarySpec s 0x041 .single .single rd rs1 rs2 excArith (fun x => fpAdd .single x.rnd u x false)
  | .faddd rd rs1 rs2 => binarySpec s 0x042 .double .double rd rs1 rs2 excArith (fun x => fpAdd .double x.rnd u x false)
  | .faddq rd rs1 rs2 => binarySpec s 0x043 .quad .quad rd rs1 rs2 excArith (fun x => fpAdd .quad x.rnd u x false)
  | .fsubs rd rs1 rs2 => binarySpec s 0x045 .single .single rd rs1 rs2 excArith (fun x => fpAdd .single x.rnd u x true)
  | .fsubd rd rs1 rs2 => binarySpec s 0x046 .double .double rd rs1 rs2 excArith (fun x => fpAdd .double x.rnd u x true)
  | .fsubq rd rs1 rs2 => binarySpec s 0x047 .quad .quad rd rs1 rs2 excArith (fun x => fpAdd .quad x.rnd u x true)
  | .fmuls rd rs1 rs2 => binarySpec s 0x049 .single .single rd rs1 rs2 excArith (fun x => fpMul .single .single x.rnd u x)
  | .fmuld rd rs1 rs2 => binarySpec s 0x04A .double .double rd rs1 rs2 excArith (fun x => fpMul .double .double x.rnd u x)
  | .fmulq rd rs1 rs2 => binarySpec s 0x04B .quad .quad rd rs1 rs2 excArith (fun x => fpMul .quad .quad x.rnd u x)
  | .fsmuld rd rs1 rs2 => binarySpec s 0x069 .single .double rd rs1 rs2 excNV (fun x => fpMul .single .double x.rnd u x)
  | .fdmulq rd rs1 rs2 => binarySpec s 0x06E .double .quad rd rs1 rs2 excNV (fun x => fpMul .double .quad x.rnd u x)
  | .fdivs rd rs1 rs2 => binarySpec s 0x04D .single .single rd rs1 rs2 (excArith ||| excDZ) (fun x => fpDiv .single x.rnd u x)
  | .fdivd rd rs1 rs2 => binarySpec s 0x04E .double .double rd rs1 rs2 (excArith ||| excDZ) (fun x => fpDiv .double x.rnd u x)
  | .fdivq rd rs1 rs2 => binarySpec s 0x04F .quad .quad rd rs1 rs2 (excArith ||| excDZ) (fun x => fpDiv .quad x.rnd u x)
  | _ => none

/-! ### Floating-point values -/

/-- A finite value is the real number `v`: (-1)^sign × significand × 2^exponent (R541). -/
def FpValue.IsReal (x : FpValue) (v : ℝ) : Prop :=
  match x with
  | .finite sign m e => v = (if sign then -1 else 1) * (m * 2 ^ e)
  | .infinity _ => False
  | .nan _ => False

/-- A NaN. -/
def FpValue.isNan : FpValue → Bool
  | .nan _ => true
  | .infinity _ => false
  | .finite _ _ _ => false

/-- A signaling NaN. -/
def FpValue.isSignaling : FpValue → Bool
  | .nan b => b
  | .infinity _ => false
  | .finite _ _ _ => false

/-- The result is an exact zero of the sign. -/
def FpResult.IsZero (r : FpResult) (fmt : FpFormat) (sign : Bool) : Prop :=
  r.exc = excNone ∧ ∃ e, fpUnpack fmt r.bits = .finite sign 0 e

/-- The result is infinity of the sign, with the exceptions `exc`. -/
def FpResult.IsInfinity (r : FpResult) (fmt : FpFormat) (sign : Bool) (exc : FpExc) : Prop :=
  r.exc = exc ∧ fpUnpack fmt r.bits = .infinity sign

/-- The result is a quiet NaN, with the exceptions `exc`. -/
def FpResult.IsQuietNan (r : FpResult) (fmt : FpFormat) (exc : FpExc) : Prop :=
  r.exc = exc ∧ fpUnpack fmt r.bits = .nan false

/-- The integer `n` is `x` rounded in direction `rnd` (R64): 0 nearest, even on a tie; 1 toward 0; 2 up; 3 down. -/
def RoundsToInt (rnd : BitVec 2) (x : ℝ) (n : ℤ) : Prop :=
  match rnd.toNat with
  | 0 => |x - n| ≤ 1 / 2 ∧ (|x - n| = 1 / 2 → Even n)
  | 1 => (0 ≤ x → n = ⌊x⌋) ∧ (x ≤ 0 → n = ⌈x⌉)
  | 2 => n = ⌈x⌉
  | _ => n = ⌊x⌋

/-- An overflow of the sign delivers infinity, not the largest finite number, in direction `rnd` (R76). -/
def overflowsToInfinity (rnd : BitVec 2) (sign : Bool) : Bool := rnd == 0 || rnd == (if sign then 3 else 2)

/-- The result is the nonzero real `v` correctly rounded to the format, with its exceptions (R64, R76). With 2^E ≤ |v| < 2^(E+1)
the last place is 2^(max(E, emin) - fraction width); `w` is `v` rounded to a multiple of it. Below 2^(bias+1) the result is `w`,
inexact if it is not `v`, an underflow if |v| < 2^emin and it is inexact or UFM is set; from there on it is an overflow. -/
def RoundsTo (fmt : FpFormat) (rnd : BitVec 2) (ufm : Bool) (v : ℝ) (r : FpResult) : Prop :=
  ∃ (sign : Bool) (E n : ℤ), (sign = true ↔ v < 0) ∧ (2 : ℝ) ^ E ≤ |v| ∧ |v| < 2 ^ (E + 1) ∧
    let emin : ℤ := 1 - fmt.bias
    let w : ℝ := n * 2 ^ (max E emin - fmt.fractionBits)
    RoundsToInt rnd (v / 2 ^ (max E emin - fmt.fractionBits)) n
    ∧ (|w| < 2 ^ (fmt.bias + 1) →
        (∃ m e, fpUnpack fmt r.bits = .finite sign m e ∧ |w| = m * 2 ^ e)
        ∧ r.exc = (if w = v then excNone else excNX) ||| (if E < emin ∧ (ufm = true ∨ w ≠ v) then excUF else excNone))
    ∧ (2 ^ (fmt.bias + 1) ≤ |w| → r.exc = excOF ||| excNX
        ∧ fpUnpack fmt r.bits = if overflowsToInfinity rnd sign then .infinity sign
            else .finite sign (2 ^ (fmt.fractionBits + 1) - 1) (fmt.bias - fmt.fractionBits))

end Sys2Proof.Machine
end

