-- ==== Sys2Proof/Certificates/Slice0/Obligations.lean ====
section
/-! DEFINITION. The statements for the provers. `Inv`, `traps`, the frames and the tables of results are those of Safety.lean. -/

section
open Sys2Proof Sys2Proof.Machine

/-! ### Reset, the invariant, decoding, the step -/

/-- 10_state.md section 10, the values the spec gives (PC, nPC, S, ET, EC, the hard-wired bits, the hidden state). Every other
register's reset value is the model's choice (log 1) and stands in no clause. nPC, S, ET and the empty hidden state are the
spec's own decision D7 (log 20). That impl, ver and FSR.ver read 0 rests on the parameters PSR_IMPL, PSR_VER and FSR_VER (decisions
D25 and D26, log 19). -/
def Obligations.ResetGivesTheSpecifiedValues : Prop :=
  State.reset.pc = 0 ∧ State.reset.npc = 4 ∧ State.reset.psr.s = true ∧ State.reset.psr.et = false
    ∧ State.reset.psr.ec = false ∧ State.reset.psr.cwp.toNat < Config.nwindows ∧ State.reset.wim &&& ~~~wimMask = 0
    ∧ State.reset.fsr.qne = false ∧ State.reset.errorMode = false ∧ State.reset.haz = Hazards.empty
    ∧ State.reset.flushPending = [] ∧ State.reset.psrWord.extractLsb' 14 6 = 0 ∧ State.reset.psrWord.extractLsb' 24 8 = 0
    ∧ State.reset.tbrWord.extractLsb' 0 4 = 0 ∧ State.reset.fsrWord.extractLsb' 17 5 = 0

/-- The invariant of the machine holds after reset. That CWP, WIM and the remaining registers hold these values at reset is the
model's choice (log 1). -/
def Obligations.ResetSatisfiesInvariant : Prop := State.reset.Inv

/-- Every step keeps the invariant: canonical memory and flush list, word-aligned PC and nPC, CWP below NWINDOWS, WIM zero above
the implemented windows, EC, EF and qne zero without their units, bounded hazard counts. The forms of memory and of the flush
list are the model's (log 3, log 35). -/
def Obligations.EveryStepKeepsInvariant : Prop := ∀ s t : State, s.Inv → step s = .next t → t.Inv

/-- Decode and encode agree on every well-formed instruction, and what decodes is well-formed. -/
def Obligations.DecodeInvertsEncode : Prop :=
  (∀ i : Instr, i.wf = true →
    decodeBytes (byteOfWord (encode i) 0) (byteOfWord (encode i) 1) (byteOfWord (encode i) 2) (byteOfWord (encode i) 3) = .ok i)
  ∧ ∀ (b0 b1 b2 b3 : Byte) (i : Instr), decodeBytes b0 b1 b2 b3 = .ok i → i.wf = true

/-- Words of the spec's examples decode to the instructions they stand for, at least one of each section of 40_load_store.md to
45_fpop_cpop.md that defines an instruction. -/
def Obligations.ExampleWordsDecode : Prop :=
  ∀ p ∈ [((0x9DE3BFA0#32 : Word), Instr.save 14 14 (.imm 0x1FA0)), (0x94820009#32, .addcc 10 8 (.reg 9)),
      (0xD26A0000#32, .ldstub 9 8 (.reg 0)), (0xD27A0000#32, .swap 9 8 (.reg 0)), (0xC51A2008#32, .lddf 2 8 (.imm 8)),
      (0x91400000#32, .rdy 8), (0x91444000#32, .rdasr 8 17), (0xA3802000#32, .wrasr 17 0 (.imm 0)),
      (0x99230009#32, .mulscc 12 12 (.reg 9)), (0x40000040#32, .call 0x40), (0x81C7E008#32, .jmpl 0 31 (.imm 8)),
      (0x81CC8000#32, .rett 18 (.reg 0)), (0x91D04002#32, .ta 1 (.reg 2)), (0x10A00000#32, .ba false 0x200000),
      (0xD2220000#32, .st 9 8 (.reg 0)), (0xC3820000#32, .ldc 1 8 (.reg 0)), (0xC3A20000#32, .stc 1 8 (.reg 0)),
      (0x01000000#32, .nop), (0x940A0009#32, .and 10 8 (.reg 9)), (0x932A2004#32, .sll 9 8 (.cnt 4)),
      (0x11800004#32, .fba false 4), (0x11C00004#32, .cba false 4), (0x8143C000#32, .stbar), (0x0000000C#32, .unimp 12),
      (0x81DA0000#32, .flush 8 (.reg 0)), (0x91A00824#32, .fadds 8 0 4), (0x81A80A24#32, .fcmps 0 4),
      (0x87B040A2#32, .cpop1 3 1 5 2), (0xD24A2001#32, .ldsb 9 8 (.imm 1)), (0xD2CA0160#32, .ldsba 9 8 false 0x0B 0),
      (0xC3220000#32, .stf 1 8 (.reg 0)), (0xD2AA0160#32, .stba 9 8 false 0x0B 0), (0x11048D15#32, .sethi 8 0x48D15),
      (0x95020009#32, .taddcc 10 8 (.reg 9)), (0x94220009#32, .sub 10 8 (.reg 9)), (0x950A0009#32, .tsubcc 10 8 (.reg 9)),
      (0x94520009#32, .umul 10 8 (.reg 9)), (0x94720009#32, .udiv 10 8 (.reg 9)), (0x81882FE0#32, .wrpsr 0 (.imm 0xFE0)),
      (0x89A01880#32, .fitos 4 0), (0x89A01A20#32, .fstoi 4 0), (0x89A01920#32, .fstod 4 0), (0x89A00020#32, .fmovs 4 0),
      (0x89A00520#32, .fsqrts 4 0), (0x91A00924#32, .fmuls 8 0 4)],
    decodeWord p.1 = .ok p.2

/-- Where the four bytes at PC decode to `i`, no interrupt is taken, the fetch does not fault and its doubleword is coherent,
the step is `exec i`, then the clock of the model's inputs. A word with a nonzero reserved field runs as the instruction it decodes
to by the model's policy (log 13). The request list, the fault map and the counter are the model's (log 4, log 17, log 34); after a
RETT without a JMPL the space of the fetch is its draw (log 11), and whether a quirk of WRPSR leaves a request open is log 18. -/
def Obligations.StepRunsDecodedInstruction : Prop :=
  ∀ (s : State) (i : Instr), s.errorMode = false → s.interruptTaken = false → s.memFault s.iasi s.pc 4 .fetch = none →
    flushFind s.flushPending (doublewordOf s.pc) = none →
    decodeBytes (s.byte s.pc) (s.byte (s.pc + 1)) (s.byte (s.pc + 2)) (s.byte (s.pc + 3)) = .ok i →
    step s = tickResult (exec i s) ∧ ∀ t, exec i s = .next t →
      step s = .next { t with irl := t.irl.tail, freeCount := t.freeCount + 1 }

/-- Words no row matches trap: illegal_instruction, or, in the FPop space, fp_disabled or fp_exception with ftt = 3
(30_encoding.md section 4). That they trap so is the spec's own decision D12 (log 37); that an FPop word traps so
with FSR.NS = 1 too is the model's choice (log 14). Inside a WRPSR window EF and what the trap uses are the model's free values and
draws (log 6, log 8). -/
def Obligations.UnassignedWordsTrap : Prop :=
  ∀ (w : Word) (s : State),
    ((opField w = 0 ∧ op2Field w ∈ [1, 3, 5])
      ∨ (opField w = 2 ∧ op3Field w ∈ [0x09, 0x0D, 0x19, 0x1D, 0x2C, 0x2D, 0x2E, 0x2F, 0x3E, 0x3F])
      ∨ (opField w = 3 ∧ op3Field w ∈ [0x08, 0x0B, 0x0C, 0x0E, 0x18, 0x1B, 0x1C, 0x1E, 0x22, 0x28, 0x29, 0x2A, 0x2B, 0x2C,
          0x2D, 0x2E, 0x2F, 0x32, 0x38, 0x39, 0x3A, 0x3B, 0x3C, 0x3D, 0x3E, 0x3F]) →
        traps (execWord w s) .illegalInstruction s)
    ∧ (opField w = 2 ∧ op3Field w ∈ [0x34, 0x35] ∧ (∀ i, decodeWord w ≠ .ok i) →
        (s.efRead = false → traps (execWord w s) .fpDisabled s)
        ∧ (s.efRead = true → traps (execWord w s) .fpException { s with fsr := { s.fsr with ftt := 3 } }))

/-! ### Registers -/

/-- r[0] reads 0 and discards writes; the other effects of an instruction with rd = 0 happen (R25): icc and Y of UMULcc, the
store of SWAP, the transfer of JMPL, the trap of LDUH. That each completes is said for rd = 0 alone. Inside a WRPSR or WRY window
icc, Y and the window of r registers are the model's free values (log 6, log 7, log 36). -/
def Obligations.RegisterZeroIsConstant : Prop :=
  ∀ (s : State) (rs1 : Reg) (o : RegOrImm),
    (∀ w v, s.rw w 0 = 0 ∧ s.setRw w 0 v = s)
    ∧ (∃ t, exec (.umulcc 0 rs1 o) s = .next t ∧ regsKept s t
        ∧ t.psr = psrWithIcc s (logicIcc (lowWord (unsignedProduct (s.r rs1) (s.op2 o))))
        ∧ t.y = yWith s (highWord (unsignedProduct (s.r rs1) (s.op2 o))) ∧ t.pc = s.npc)
    ∧ ((s.ea rs1 o).toNat % 4 = 0 → s.memFault s.dasi (s.ea rs1 o) 4 .atomic = none →
        s.memFault s.dasi (s.ea rs1 o) 4 .store = none → memWf s.mem = true →
        ∃ t, exec (.swap 0 rs1 o) s = .next t ∧ regsKept s t ∧ t.word (s.ea rs1 o) = 0)
    ∧ ((s.ea rs1 o).toNat % 4 = 0 → ∃ t, exec (.jmpl 0 rs1 o) s = .next t ∧ regsKept s t ∧ t.npc = s.ea rs1 o)
    ∧ ((s.ea rs1 o).toNat % 2 ≠ 0 → traps (exec (.lduh 0 rs1 o) s) .memAddressNotAligned s)

/-- The outs of a window are the ins of the window below, modulo NWINDOWS, and the locals belong to one window (R24). -/
def Obligations.AdjacentWindowsOverlap : Prop :=
  (∀ (s : State) (w k : Nat), w < Config.nwindows → k < 8 →
    s.rw w (BitVec.ofNat 5 (8 + k)) = s.rw ((w + Config.nwindows - 1) % Config.nwindows) (BitVec.ofNat 5 (24 + k)))
  ∧ (∀ (w v k : Nat) (j : Reg), w < Config.nwindows → v < Config.nwindows → k < 8 →
      sameReg w (BitVec.ofNat 5 (16 + k)) v j → w = v ∧ j = BitVec.ofNat 5 (16 + k))
  ∧ ∀ (s : State) (k : Nat), k < 8 →
      s.rw 0 (BitVec.ofNat 5 (8 + k)) = s.rw (Config.nwindows - 1) (BitVec.ofNat 5 (24 + k))

/-- Writing r[i] through a window is read back through every window that shows the register, and changes no other register and no
other state. -/
def Obligations.RegisterWriteIsReadBack : Prop :=
  ∀ (s : State) (w : Nat) (i : Reg) (v : Word),
    (∀ u j, i ≠ 0 → sameReg w i u j → (s.setRw w i v).rw u j = v) ∧ regsKeptBut s (s.setRw w i v) w i
    ∧ (s.setRw w i v).psr = s.psr ∧ (s.setRw w i v).mem = s.mem ∧ (s.setRw w i v).y = s.y ∧ (s.setRw w i v).f = s.f
    ∧ (s.setRw w i v).fsr = s.fsr ∧ (s.setRw w i v).pc = s.pc ∧ (s.setRw w i v).npc = s.npc
    ∧ (s.setRw w i v).haz = s.haz
    ∧ (s.setRw w i v).flushPending = s.flushPending ∧ systemKept s (s.setRw w i v)

/-! ### Logical, shift, SETHI, arithmetic -/

/-- The results of the twelve logical instructions; a cc form sets n and z from the result and clears v and c. That v and c are
cleared is the spec's own decision D33 (log 20). Inside a WRPSR window the icc written and, if it changed CWP, the r registers are the
model's free values (log 6, log 7, log 36). -/
def Obligations.LogicalResults : Prop :=
  ∀ (s : State) (rd rs1 : Reg) (o : RegOrImm), ∀ p ∈
      [(Instr.and rd rs1 o, Instr.andcc rd rs1 o, s.r rs1 &&& s.op2 o), (.andn rd rs1 o, .andncc rd rs1 o, s.r rs1 &&& ~~~s.op2 o),
       (.or rd rs1 o, .orcc rd rs1 o, s.r rs1 ||| s.op2 o), (.orn rd rs1 o, .orncc rd rs1 o, s.r rs1 ||| ~~~s.op2 o),
       (.xor rd rs1 o, .xorcc rd rs1 o, s.r rs1 ^^^ s.op2 o), (.xnor rd rs1 o, .xnorcc rd rs1 o, ~~~(s.r rs1 ^^^ s.op2 o))],
    (∃ t, exec p.1 s = .next t ∧ sequential s t ∧ writesReg s t s.cwpRead rd p.2.2 ∧ t.psr = s.psr ∧ t.y = s.y
      ∧ integerFrame s t)
    ∧ ∃ t, exec p.2.1 s = .next t ∧ sequential s t ∧ writesReg s t s.cwpRead rd p.2.2
      ∧ t.psr = psrWithIcc s ⟨p.2.2.msb, p.2.2 == 0, false, false⟩ ∧ t.y = s.y ∧ integerFrame s t

/-- The shift count is the low five bits of r[rs2], or shcnt (R320); SLL, SRL, SRA by it, and no flag changes. Inside a
WRPSR window that changed CWP the r registers are those of the model's free window (log 6, log 36). -/
def Obligations.ShiftResults : Prop :=
  ∀ (s : State) (rd rs1 rs2 : Reg) (shcnt : BitVec 5), ∀ c ∈ [(ShiftOperand.reg rs2, (s.r rs2).toNat % 32), (.cnt shcnt, shcnt.toNat)],
    ∀ p ∈ [(Instr.sll rd rs1 c.1, s.r rs1 <<< c.2), (.srl rd rs1 c.1, s.r rs1 >>> c.2),
        (.sra rd rs1 c.1, (s.r rs1).sshiftRight c.2)],
      ∃ t, exec p.1 s = .next t ∧ sequential s t ∧ writesReg s t s.cwpRead rd p.2 ∧ t.psr = s.psr ∧ t.y = s.y ∧ integerFrame s t

/-- SETHI puts imm22 in the high bits and zero in the low ten; NOP and STBAR only advance. That STBAR does rests on the model's one
processor (decision D10, log 30). Inside a WRPSR window that changed CWP r[rd] is of the model's free window (log 6, log 36). -/
def Obligations.SethiNopStbarResults : Prop :=
  ∀ (s : State) (rd : Reg) (imm22 : BitVec 22),
    (∃ t, exec (.sethi rd imm22) s = .next t ∧ sequential s t ∧ writesReg s t s.cwpRead rd (BitVec.ofNat 32 (imm22.toNat * 1024))
      ∧ t.psr = s.psr ∧ t.y = s.y ∧ integerFrame s t)
    ∧ ∀ i ∈ [Instr.nop, Instr.stbar], ∃ t, exec i s = .next t ∧ sequential s t ∧ regsKept s t ∧ t.psr = s.psr ∧ t.y = s.y
      ∧ integerFrame s t

/-- ADD, ADDX, SUB, SUBX and their cc forms: the sum or difference with the carry c of icc in the X forms, and the codes of
`addIcc` and `subIcc` in the cc forms. Inside a WRPSR window the icc read and written and the window of r registers are the model's
free values (log 6, log 7, log 36). -/
def Obligations.AddSubtractResults : Prop :=
  ∀ (s : State) (rd rs1 : Reg) (o : RegOrImm), let a := s.r rs1; let b := s.op2 o; let c := s.iccRead.c
    ∀ p ∈ [(Instr.add rd rs1 o, Instr.addcc rd rs1 o, a + b, addIcc a b false),
        (.addx rd rs1 o, .addxcc rd rs1 o, a + b + (if c then 1 else 0), addIcc a b c),
        (.sub rd rs1 o, .subcc rd rs1 o, a - b, subIcc a b false),
        (.subx rd rs1 o, .subxcc rd rs1 o, a - b - (if c then 1 else 0), subIcc a b c)],
      (∃ t, exec p.1 s = .next t ∧ sequential s t ∧ writesReg s t s.cwpRead rd p.2.2.1 ∧ t.psr = s.psr ∧ t.y = s.y
        ∧ integerFrame s t)
      ∧ ∃ t, exec p.2.1 s = .next t ∧ sequential s t ∧ writesReg s t s.cwpRead rd p.2.2.1 ∧ t.psr = psrWithIcc s p.2.2.2
        ∧ t.y = s.y ∧ integerFrame s t

/-- `add_cc` (R340): sum, n, z, v, c, and the two bit formulas. -/
def Obligations.AdditionConditionCodes : Prop :=
  ∀ (a b : Word) (cin : Bool), let n := a.toNat + b.toNat + cin.toNat; let res := addResult a b cin; let cc := addIcc a b cin
    res.toNat = n % 2 ^ 32 ∧ cc.n = res.getLsbD 31 ∧ (cc.z = true ↔ res = 0)
    ∧ cc.v = (a.getLsbD 31 == b.getLsbD 31 && res.getLsbD 31 != a.getLsbD 31) ∧ (cc.c = true ↔ 2 ^ 32 ≤ n)
    ∧ cc.v = ((a.getLsbD 31 && b.getLsbD 31 && !res.getLsbD 31) || (!a.getLsbD 31 && !b.getLsbD 31 && res.getLsbD 31))
    ∧ cc.c = ((a.getLsbD 31 && b.getLsbD 31) || (!res.getLsbD 31 && (a.getLsbD 31 || b.getLsbD 31)))

/-- `sub_cc` (R341): difference, n, z, v, c, and the two bit formulas. -/
def Obligations.SubtractionConditionCodes : Prop :=
  ∀ (a b : Word) (cin : Bool),
    let d : Int := (a.toNat : Int) - b.toNat - cin.toNat; let res := subResult a b cin; let cc := subIcc a b cin
    (res.toNat : Int) = d % 2 ^ 32 ∧ cc.n = res.getLsbD 31 ∧ (cc.z = true ↔ res = 0)
    ∧ cc.v = (a.getLsbD 31 != b.getLsbD 31 && res.getLsbD 31 != a.getLsbD 31) ∧ (cc.c = true ↔ d < 0)
    ∧ cc.v = ((a.getLsbD 31 && !b.getLsbD 31 && !res.getLsbD 31) || (!a.getLsbD 31 && b.getLsbD 31 && res.getLsbD 31))
    ∧ cc.c = ((!a.getLsbD 31 && b.getLsbD 31) || (res.getLsbD 31 && (!a.getLsbD 31 || b.getLsbD 31)))

/-- The tagged instructions (R346 and 42_arithmetic.md sections 3 and 5): v is the tag overflow in TADDcc and TSUBcc; the TV
forms trap on it with nothing written, and otherwise write with v = 0. Inside a WRPSR window the icc written and the window of r
registers are the model's free values (log 6, log 7, log 36). -/
def Obligations.TaggedResults : Prop :=
  ∀ (s : State) (rd rs1 : Reg) (o : RegOrImm), let a := s.r rs1; let b := s.op2 o
    let bits := decide (a.toNat % 4 ≠ 0 ∨ b.toNat % 4 ≠ 0)
    ∀ p ∈ [(Instr.taddcc rd rs1 o, Instr.taddcctv rd rs1 o, a + b, addIcc a b false),
        (.tsubcc rd rs1 o, .tsubcctv rd rs1 o, a - b, subIcc a b false)],
      (∃ t, exec p.1 s = .next t ∧ sequential s t ∧ writesReg s t s.cwpRead rd p.2.2.1
        ∧ t.psr = psrWithIcc s { p.2.2.2 with v := bits || p.2.2.2.v } ∧ t.y = s.y ∧ integerFrame s t)
      ∧ ((bits || p.2.2.2.v) = true → traps (exec p.2.1 s) .tagOverflow s)
      ∧ ((bits || p.2.2.2.v) = false → ∃ t, exec p.2.1 s = .next t ∧ sequential s t ∧ writesReg s t s.cwpRead rd p.2.2.1
          ∧ t.psr = psrWithIcc s p.2.2.2 ∧ t.y = s.y ∧ integerFrame s t)

/-- MULScc (42_arithmetic.md section 6): the six steps, every read before every write. Inside a WRY or WRPSR window what is read
and left is the model's free value (log 6, log 7), and so is the window of r registers (log 36). -/
def Obligations.MultiplyStepResult : Prop :=
  ∀ (s : State) (rd rs1 : Reg) (o : RegOrImm),
    let op1 : Word := BitVec.ofBool (s.iccRead.n ^^ s.iccRead.v) ++ (s.r rs1).extractLsb' 1 31
    let add2 : Word := if s.yRead.getLsbD 0 then s.op2 o else 0
    ∃ t, exec (.mulscc rd rs1 o) s = .next t ∧ sequential s t ∧ writesReg s t s.cwpRead rd (op1 + add2)
      ∧ t.psr = psrWithIcc s (addIcc op1 add2 false)
      ∧ t.y = yWith s (BitVec.ofBool ((s.r rs1).getLsbD 0) ++ s.yRead.extractLsb' 1 31) ∧ integerFrame s t

/-- The multiplies (R356): the product's low word in r[rd], its high word in Y, and the 32-bit overflow test of each
kind. Inside a WRPSR or WRY window the icc and Y written and the window of r registers are the model's free values (log 6, log 7,
log 36). -/
def Obligations.MultiplyResults : Prop :=
  (∀ (s : State) (rd rs1 : Reg) (o : RegOrImm), ∀ p ∈
      [(Instr.umul rd rs1 o, Instr.umulcc rd rs1 o, ((s.r rs1).toNat * (s.op2 o).toNat : Int)),
        (.smul rd rs1 o, .smulcc rd rs1 o, (s.r rs1).toInt * (s.op2 o).toInt)],
      (∃ t, exec p.1 s = .next t ∧ sequential s t ∧ writesReg s t s.cwpRead rd (BitVec.ofInt 32 p.2.2)
        ∧ t.y = yWith s (BitVec.ofInt 32 (p.2.2 / 2 ^ 32)) ∧ t.psr = s.psr ∧ integerFrame s t)
      ∧ ∃ t, exec p.2.1 s = .next t ∧ sequential s t ∧ writesReg s t s.cwpRead rd (BitVec.ofInt 32 p.2.2)
        ∧ t.y = yWith s (BitVec.ofInt 32 (p.2.2 / 2 ^ 32))
        ∧ t.psr = psrWithIcc s ⟨(BitVec.ofInt 32 p.2.2).msb, BitVec.ofInt 32 p.2.2 == 0, false, false⟩ ∧ integerFrame s t)
  ∧ (∀ a b : Word, highWord (unsignedProduct a b) ≠ 0 ↔ 2 ^ 32 ≤ a.toNat * b.toNat)
  ∧ ∀ a b : Word, highWord (signedProduct a b) ≠ (lowWord (signedProduct a b)).sshiftRight 31
      ↔ ¬ (-2 ^ 31 ≤ a.toInt * b.toInt ∧ a.toInt * b.toInt < 2 ^ 31)

/-- The divides by a nonzero divisor complete: the quotient in r[rd], icc in the cc forms, Y unconstrained (42_arithmetic.md
section 8). That Y is free is the model's reading of decision D21 (log 15). Inside a WRPSR or WRY window the Y read, the icc written
and the window of r registers are the model's free values (log 6, log 7, log 36). -/
def Obligations.DivideResults : Prop :=
  ∀ (s : State) (rd rs1 : Reg) (o : RegOrImm), s.op2 o ≠ 0 →
    ∀ p ∈ [(Instr.udiv rd rs1 o, Instr.udivcc rd rs1 o, unsignedQuotient s.yRead (s.r rs1) (s.op2 o)),
        (.sdiv rd rs1 o, .sdivcc rd rs1 o, signedQuotient s.yRead (s.r rs1) (s.op2 o))],
      (∃ t, exec p.1 s = .next t ∧ sequential s t ∧ writesReg s t s.cwpRead rd p.2.2.q ∧ t.psr = s.psr ∧ integerFrame s t)
      ∧ ∃ t, exec p.2.1 s = .next t ∧ sequential s t ∧ writesReg s t s.cwpRead rd p.2.2.q
        ∧ t.psr = psrWithIcc s ⟨p.2.2.q.msb, p.2.2.q == 0, p.2.2.ovf, false⟩ ∧ integerFrame s t

/-- A divide by 0 raises division_by_zero and leaves r[rd], icc and Y (R362). That a zero divisor is the cause is the spec's own
reading of the trap's name (log 20). Inside a WRPSR window that changed CWP the divisor is of the model's free window (log 6,
log 36), and what the trap uses of the PSR is drawn (log 8). -/
def Obligations.DivisionByZeroTraps : Prop :=
  ∀ (s : State) (rd rs1 : Reg) (o : RegOrImm), s.op2 o = 0 →
    ∀ i ∈ [Instr.udiv rd rs1 o, .sdiv rd rs1 o, .udivcc rd rs1 o, .sdivcc rd rs1 o], traps (exec i s) .divisionByZero s

/-- The quotients of 42_arithmetic.md section 8: dividend = quotient × divisor + remainder without overflow, truncated toward
zero; overflow exactly when the quotient does not fit, and then the largest appropriate integer. Of the two tests of a negative
overflow the model takes the spec's default A (decision D21, log 19). -/
def Obligations.QuotientArithmetic : Prop :=
  ∀ y a d : Word, d ≠ 0 →
    let n : Nat := y.toNat * 2 ^ 32 + a.toNat
    let m : Int := y.toInt * 2 ^ 32 + a.toNat
    let u := unsignedQuotient y a d
    let v := signedQuotient y a d
    (u.ovf = true ↔ d.toNat ≤ y.toNat) ∧ (u.ovf = true → u.q = 0xFFFFFFFF#32)
    ∧ (u.ovf = false → u.q.toNat * d.toNat + u.rem.toNat = n ∧ u.rem.toNat < d.toNat)
    ∧ (v.ovf = true ↔ m.tdiv d.toInt < -2 ^ 31 ∨ 2 ^ 31 ≤ m.tdiv d.toInt)
    ∧ (v.ovf = true → v.q = if 0 ≤ m.tdiv d.toInt then 0x7FFFFFFF#32 else 0x80000000#32)
    ∧ (v.ovf = false → v.q.toInt * d.toInt + v.rem.toInt = m ∧ v.rem.toInt.natAbs < d.toInt.natAbs
        ∧ (v.rem.toInt ≠ 0 → (0 < v.rem.toInt ↔ 0 < m)))

/-! ### Windows and control transfer -/

/-- SAVE and RESTORE into a valid window: the sum of the old window's operands goes to r[rd] of the new one
(43_window_control_transfer.md section 1). No WRPSR or WRWIM window is open; a WRY or WRTBR window may be. -/
def Obligations.SaveRestoreChangeWindow : Prop :=
  ∀ (s : State) (rd rs1 : Reg) (o : RegOrImm), s.haz.psr.count = 0 → s.haz.wim.count = 0 → s.window < Config.nwindows →
    ∀ p ∈ [(Instr.save rd rs1 o, (s.window + Config.nwindows - 1) % Config.nwindows),
        (.restore rd rs1 o, (s.window + 1) % Config.nwindows)],
      s.wim.getLsbD p.2 = false →
      ∃ t, exec p.1 s = .next t ∧ sequential s t ∧ t.window = p.2 ∧ t.psr = { s.psr with cwp := t.psr.cwp }
        ∧ writesReg s t p.2 rd (s.rw s.window rs1 + s.op2 o) ∧ t.y = s.y ∧ integerFrame s t

/-- SAVE and RESTORE into a window WIM marks invalid trap and change nothing. No WRPSR or WRWIM window is open; inside a WRTBR
window the TBA of the trap is drawn (log 8). -/
def Obligations.SaveRestoreTrapOnInvalidWindow : Prop :=
  ∀ (s : State) (rd rs1 : Reg) (o : RegOrImm), s.haz.psr.count = 0 → s.haz.wim.count = 0 → s.window < Config.nwindows →
    (s.wim.getLsbD ((s.window + Config.nwindows - 1) % Config.nwindows) = true →
      traps (exec (.save rd rs1 o) s) .windowOverflow s)
    ∧ (s.wim.getLsbD ((s.window + 1) % Config.nwindows) = true → traps (exec (.restore rd rs1 o) s) .windowUnderflow s)

/-- The sixteen Bicc: taken by their test of icc, PC and nPC by the table of R34. In the delay slot of a conditional branch PC
and nPC are word addresses the model leaves free (log 10). The skip of an annulled instruction and addresses modulo 2^32 are the
spec's own decisions D3 and D4 (log 20). Inside a WRPSR window that changed icc the tests are of the model's free icc (log 6). -/
def Obligations.IntegerBranches : Prop :=
  ∀ (s : State) (a : Bool) (d : BitVec 22), let c := s.iccRead
    ∀ p ∈ [(Instr.ba a d, true, true), (.bn a d, false, true), (.be a d, c.z, false), (.bne a d, !c.z, false),
        (.ble a d, c.z || (c.n ^^ c.v), false), (.bg a d, !(c.z || (c.n ^^ c.v)), false), (.bl a d, c.n ^^ c.v, false),
        (.bge a d, !(c.n ^^ c.v), false), (.bleu a d, c.c || c.z, false), (.bgu a d, !(c.c || c.z), false), (.bcs a d, c.c, false),
        (.bcc a d, !c.c, false), (.bneg a d, c.n, false), (.bpos a d, !c.n, false), (.bvs a d, c.v, false), (.bvc a d, !c.v, false)],
      (s.haz.prevCondBranch = false →
        ∃ t, exec p.1 s = .next t ∧ branchCase s t p.2.1 p.2.2 a (s.pc + BitVec.ofInt 32 (4 * d.toInt))
          ∧ branchFrame s t (!p.2.2 && (p.2.1 || !a)))
      ∧ (s.haz.prevCondBranch = true →
        ∃ t, exec p.1 s = .next t ∧ wordAligned t.pc ∧ wordAligned t.npc ∧ branchFrame s t (!p.2.2))

/-- The sixteen FBfcc with the FPU enabled: taken by fcc (E = 0, L = 1, G = 2, U = 3); within the hazards of LDFSR and FPop2 the
outcome is the model's free value (log 9). Couples as for Bicc (log 10); D3 and D4 as there (log 20).
Inside a WRPSR window that changed EF the enable tested is the model's free value (log 6). -/
def Obligations.FloatingPointBranches : Prop :=
  ∀ (s : State) (a : Bool) (d : BitVec 22), s.efRead = true →
    ∀ p ∈ [(Instr.fba a d, [0, 1, 2, 3], true), (.fbn a d, [], true), (.fbu a d, [3], false), (.fbg a d, [2], false),
        (.fbug a d, [2, 3], false), (.fbl a d, [1], false), (.fbul a d, [1, 3], false), (.fblg a d, [1, 2], false),
        (.fbne a d, [1, 2, 3], false), (.fbe a d, [0], false), (.fbue a d, [0, 3], false), (.fbge a d, [0, 2], false),
        (.fbuge a d, [0, 2, 3], false), (.fble a d, [0, 1], false), (.fbule a d, [0, 1, 3], false), (.fbo a d, [0, 1, 2], false)],
      (s.haz.prevCondBranch = false →
        ∃ t taken, exec p.1 s = .next t ∧ branchCase s t taken p.2.2 a (s.pc + BitVec.ofInt 32 (4 * d.toInt))
          ∧ branchFrame s t (!p.2.2 && (taken || !a))
          ∧ (s.haz.ldfsrCount = 0 → s.haz.fpop2Prev = false → taken = decide (s.fsr.fcc.toNat ∈ p.2.1)))
      ∧ (s.haz.prevCondBranch = true →
        ∃ t, exec p.1 s = .next t ∧ wordAligned t.pc ∧ wordAligned t.npc ∧ branchFrame s t (!p.2.2))

/-- CALL links in r[15], JMPL in r[rd]; both are delayed transfers; a JMPL to an address that is no multiple of 4 traps.
Inside a WRPSR window that changed CWP the r registers are those of the model's free window (log 6, log 36). -/
def Obligations.CallAndJmplTransfer : Prop :=
  ∀ (s : State) (disp30 : BitVec 30) (rd rs1 : Reg) (o : RegOrImm),
    (∃ t, exec (.call disp30) s = .next t ∧ t.pc = s.npc ∧ t.npc = s.pc + BitVec.ofNat 32 (4 * disp30.toNat)
      ∧ writesReg s t s.cwpRead 15 s.pc ∧ t.psr = s.psr ∧ t.y = s.y ∧ integerFrame s t)
    ∧ ((s.ea rs1 o).toNat % 4 = 0 → ∃ t, exec (.jmpl rd rs1 o) s = .next t ∧ t.pc = s.npc ∧ t.npc = s.ea rs1 o
        ∧ writesReg s t s.cwpRead rd s.pc ∧ t.psr = s.psr ∧ t.y = s.y ∧ memKept s t ∧ fpuKept s t ∧ systemKept s t
        ∧ t.haz = { s.haz.age with prevJmpl := true })
    ∧ ((s.ea rs1 o).toNat % 4 ≠ 0 → traps (exec (.jmpl rd rs1 o) s) .memAddressNotAligned s)

/-- RETT in supervisor mode with traps disabled, into a valid window and to a word address: CWP rises by one, S gets PS, ET is set,
and the transfer is delayed. Without a JMPL before it the space of the following fetches is the model's free choice, and so is when
that ends (log 11). No WRPSR or WRWIM window is open; a WRY or WRTBR window may be. -/
def Obligations.RettReturnsFromTrap : Prop :=
  ∀ (s : State) (rs1 : Reg) (o : RegOrImm), s.haz.psr.count = 0 → s.haz.wim.count = 0 → s.window < Config.nwindows →
    s.psr.et = false → s.psr.s = true → s.wim.getLsbD ((s.window + 1) % Config.nwindows) = false → (s.ea rs1 o).toNat % 4 = 0 →
    ∃ t, exec (.rett rs1 o) s = .next t ∧ t.pc = s.npc ∧ t.npc = s.ea rs1 o
      ∧ t.psr = { s.psr with s := s.psr.ps, et := true, cwp := BitVec.ofNat 5 ((s.window + 1) % Config.nwindows) }
      ∧ regsKept s t ∧ t.y = s.y ∧ memKept s t ∧ fpuKept s t ∧ systemKept s t
      ∧ t.haz = { s.haz.age with fetchSpaceOpen := !s.haz.prevJmpl }

/-- RETT with traps enabled traps; with traps disabled and a trap condition it enters error_mode with the condition in TBR.tt,
changing nothing else (43_window_control_transfer.md section 5). The trap type codes are the spec's own decision D5 (log 20). That
it does so without a JMPL before it as well, where R716 refuses, is the model's choice (log 11). A WRY or WRTBR window may be open;
inside a WRTBR window the TBA of the trap is drawn (log 8). Inside a WRPSR window, where R712 refuses, the ET and S read and the ET of
the raise are free values of their own (log 6, log 8); the type in TBR.tt is that of R612 there too (log 16). -/
def Obligations.RettTrapsOrEntersErrorMode : Prop :=
  (∀ (s : State) (rs1 : Reg) (o : RegOrImm), s.haz.psr.count = 0 → s.haz.wim.count = 0 → s.window < Config.nwindows →
    let fails (tt : BitVec 8) := { s with errorMode := true, tbr := { s.tbr with tt := tt } }
    let invalid := s.wim.getLsbD ((s.window + 1) % Config.nwindows)
    (s.psr.et = true → exec (.rett rs1 o) s = .next (s.trapEntry (if s.psr.s then 0x02 else 0x03)))
    ∧ (s.psr.et = false → s.psr.s = false → exec (.rett rs1 o) s = .next (fails 0x03))
    ∧ (s.psr.et = false → s.psr.s = true → invalid = true → exec (.rett rs1 o) s = .next (fails 0x06))
    ∧ (s.psr.et = false → s.psr.s = true → invalid = false → (s.ea rs1 o).toNat % 4 ≠ 0 →
        exec (.rett rs1 o) s = .next (fails 0x07)))
  ∧ ∀ (s : State) (rs1 : Reg) (o : RegOrImm), s.etRead = true →
      let tt := if s.sRead then 0x02 else 0x03
      exec (.rett rs1 o) s = .next (if s.trapEt then s.trapEntry tt else { s with errorMode := true, tbr := { s.tbr with tt := tt } })

/-- The sixteen Ticc: with the test true, trap_instruction with tt = 128 + the low seven bits of the operand sum; otherwise a
NOP (43_window_control_transfer.md section 6). Inside a WRPSR window the icc tested, the window of r registers and the ET of the trap
are the model's free values and draws (log 6, log 8, log 36); error_mode with a free TBR.tt as a next state is its choice (log 16). -/
def Obligations.TrapOnConditionCodes : Prop :=
  ∀ (s : State) (rs1 rs2 : Reg) (imm7 : BitVec 7), let c := s.iccRead
    ∀ q ∈ [(TrapOperand.reg rs2, ((s.r rs1).toNat + (s.r rs2).toNat) % 128), (.imm imm7, ((s.r rs1).toNat + imm7.toNat) % 128)],
    ∀ p ∈ [(Instr.ta rs1 q.1, true), (.tn rs1 q.1, false), (.te rs1 q.1, c.z), (.tne rs1 q.1, !c.z),
        (.tle rs1 q.1, c.z || (c.n ^^ c.v)), (.tg rs1 q.1, !(c.z || (c.n ^^ c.v))), (.tl rs1 q.1, c.n ^^ c.v),
        (.tge rs1 q.1, !(c.n ^^ c.v)), (.tleu rs1 q.1, c.c || c.z), (.tgu rs1 q.1, !(c.c || c.z)), (.tcs rs1 q.1, c.c),
        (.tcc rs1 q.1, !c.c), (.tneg rs1 q.1, c.n), (.tpos rs1 q.1, !c.n), (.tvs rs1 q.1, c.v), (.tvc rs1 q.1, !c.v)],
      (p.2 = true → s.trapEt = true → exec p.1 s = .next (s.trapEntry (BitVec.ofNat 8 (128 + q.2))))
      ∧ (p.2 = true → s.trapEt = false → exec p.1 s = .next s.enterErrorMode)
      ∧ (p.2 = false → ∃ t, exec p.1 s = .next t ∧ sequential s t ∧ regsKept s t ∧ t.psr = s.psr ∧ t.y = s.y ∧ integerFrame s t)

/-! ### Traps and interrupts -/

/-- Taking a trap (60_exceptions.md section 2): what it saves, what it sets, where it goes, and what it leaves. That the quirks of
WRPSR go on through it is read from R620 and R714 (log 18). Details the sources leave implicit are the spec's own decision D6 (log
20). Inside a WRPSR window that changed them PS gets the old or the new S and CWP is one below the old or the new CWP, inside a
WRTBR window the vector goes through the old or the new TBA (R712 items 4 and 5): a draw of the model decides each (log 8). -/
def Obligations.TrapEntrySavesAndVectors : Prop :=
  ∀ (s : State) (tt : BitVec 8), let t := s.trapEntry tt
    let ps := drawnValue s.haz.psr.count s.haz.psr.s (Config.drawTrapOldS s.freeCount) s.psr.s
    let cwp := drawnValue s.haz.psr.count s.haz.psr.cwp (Config.drawTrapOldCwp s.freeCount) s.psr.cwp
    let tba := drawnValue s.haz.tbr.count s.haz.tbr.old (Config.drawTrapOldTba s.freeCount) s.tbr.tba
    let w := (cwp.toNat + Config.nwindows - 1) % Config.nwindows
    t.psr = { s.psr with et := false, ps := ps, s := true, cwp := BitVec.ofNat 5 w } ∧ t.window = w
    ∧ t.rw w 17 = s.pc ∧ t.rw w 18 = s.npc ∧ (∀ v j, ¬ sameReg w 17 v j → ¬ sameReg w 18 v j → t.rw v j = s.rw v j)
    ∧ t.tbr = { s.tbr with tt := tt } ∧ t.pc = tba ++ tt ++ 0#4 ∧ t.npc = t.pc + 4
    ∧ t.y = s.y ∧ t.wim = s.wim ∧ fpuKept s t ∧ memKept s t ∧ t.errorMode = s.errorMode
    ∧ t.haz = { Hazards.empty with
        pilQuirks := (s.haz.pilQuirks.filter (fun q => 1 < q.count)).map (fun q => { q with count := q.count - 1 }) }
    ∧ t.flushPending = s.flushPending ∧ t.irl = s.irl ∧ t.memFaults = s.memFaults

/-- Raising a trap: with ET = 1 the entry of its type, with ET = 0 error_mode, where only error_mode and TBR.tt change and no
step follows (60_exceptions.md sections 1 and 2). That TBR.tt is free there, and that error_mode is a fault of the step, is the
model's choice (log 16). Inside a WRPSR window that changed ET the ET used is a draw (R712, log 8), and so are the other values the
entry uses inside a WRPSR or WRTBR window. -/
def Obligations.RaiseEntersTrapOrErrorMode : Prop :=
  ∀ (s : State) (x : Trap),
    let et := if 0 < s.haz.psr.count ∧ s.haz.psr.et.isSome then Config.drawTrapEt s.freeCount else s.psr.et
    (et = true → raise x s = .next (s.trapEntry (trapType x)))
    ∧ (et = false → ∃ tt, raise x s = .next { s with errorMode := true, tbr := { s.tbr with tt := tt } }
        ∧ step { s with errorMode := true, tbr := { s.tbr with tt := tt } } = .fault .haltedInErrorMode)

/-- With ET = 1 a request above PIL, or at level 15, is taken instead of the instruction at PC, through trap type 0x10 + level
(60_exceptions.md section 4). Where a quirk of WRPSR leaves the request open, a draw of the model takes it or not (log 18). The
input and the codes are the spec's own decisions D5 and D23 (log 17, log 20); what the entry uses of a PSR inside a WRPSR window is
drawn (log 8). -/
def Obligations.InterruptIsTaken : Prop :=
  ∀ (s : State) (level : BitVec 4) (rest : List (BitVec 4)), s.errorMode = false → s.psr.et = true → s.irl = level :: rest →
    let taken := Host.Outcome.next (s.trapEntry (BitVec.ofNat 8 (0x10 + level.toNat))).tick
    (¬ quirkOpen s level → accepted s.psr.pil level → step s = taken)
    ∧ (quirkOpen s level → step s = if Config.drawPilQuirk s.freeCount then taken else tickResult (fetchExecute s))

/-- With ET = 0, or at most PIL and below 15 where no quirk of WRPSR leaves it open, a request is not taken: the step fetches and
executes. The input is the spec's own decision D23 (log 17); that ET = 0 ignores a request inside a quirk too is log 18. -/
def Obligations.InterruptIsIgnored : Prop :=
  ∀ s : State, s.errorMode = false →
    (s.psr.et = false ∨ (¬ quirkOpen s (s.irl.headD 0) ∧ ¬ accepted s.psr.pil (s.irl.headD 0))) →
    step s = tickResult (fetchExecute s)

/-! ### Loads, stores, atomics -/

/-- The byte, halfword and word loads, big-endian, extended by their kind, through the data space of the mode or, in supervisor
mode with i = 0, through the space named. The byte order, the ASI numbers and the one byte array are the spec's own decisions D2
and D9 (log 20). Inside a WRPSR window that changed CWP or S the r registers and the mode are the model's free values (log 6,
log 36). -/
def Obligations.LoadResults : Prop :=
  ∀ (s : State) (rd rs1 rs2 : Reg) (o : RegOrImm) (asi : Asi),
    let value (n : Nat) (signed : Bool) (ea : Word) : Word :=
      if n = 1 then (if signed then (s.byte ea).signExtend 32 else (s.byte ea).zeroExtend 32)
      else if n = 2 then (if signed then (s.byte ea ++ s.byte (ea + 1)).signExtend 32 else (s.byte ea ++ s.byte (ea + 1)).zeroExtend 32)
      else s.byte ea ++ s.byte (ea + 1) ++ s.byte (ea + 2) ++ s.byte (ea + 3)
    let completes (i : Instr) (v : Word) := ∃ t, exec i s = .next t ∧ sequential s t ∧ writesReg s t s.cwpRead rd v
      ∧ t.psr = s.psr ∧ t.y = s.y ∧ integerFrame s t
    ∀ p ∈ [(Instr.ldsb rd rs1 o, Instr.ldsba rd rs1 false asi rs2, 1, true), (.ldub rd rs1 o, .lduba rd rs1 false asi rs2, 1, false),
        (.ldsh rd rs1 o, .ldsha rd rs1 false asi rs2, 2, true), (.lduh rd rs1 o, .lduha rd rs1 false asi rs2, 2, false),
        (.ld rd rs1 o, .lda rd rs1 false asi rs2, 4, false)],
      ((s.ea rs1 o).toNat % p.2.2.1 = 0 → s.memFault s.dasi (s.ea rs1 o) p.2.2.1 .load = none →
        completes p.1 (value p.2.2.1 p.2.2.2 (s.ea rs1 o)))
      ∧ (s.sRead = true → asi ∈ [0x08, 0x09, 0x0A, 0x0B] → (s.r rs1 + s.r rs2).toNat % p.2.2.1 = 0 →
          s.memFault asi (s.r rs1 + s.r rs2) p.2.2.1 .load = none →
          completes p.2.1 (value p.2.2.1 p.2.2.2 (s.r rs1 + s.r rs2)))

/-- LDD and LDDA with an even rd: the word at the address in r[rd], the next in r[rd + 1]. D2 and D9 as for the other loads (log
20); that rd is even is the default of D14 (log 19). Inside a WRPSR window as for the other loads (log 6, log 36). -/
def Obligations.DoubleLoadResults : Prop :=
  ∀ (s : State) (rd rs1 rs2 : Reg) (o : RegOrImm) (asi : Asi), isOdd rd = false →
    let completes (i : Instr) (ea : Word) := ∃ t, exec i s = .next t ∧ sequential s t
      ∧ writesPair s t s.cwpRead rd (s.word ea) (s.word (ea + 4)) ∧ t.psr = s.psr ∧ t.y = s.y ∧ integerFrame s t
    ((s.ea rs1 o).toNat % 8 = 0 → s.memFault s.dasi (s.ea rs1 o) 8 .load = none → completes (.ldd rd rs1 o) (s.ea rs1 o))
    ∧ (s.sRead = true → asi ∈ [0x08, 0x09, 0x0A, 0x0B] → (s.r rs1 + s.r rs2).toNat % 8 = 0 →
        s.memFault asi (s.r rs1 + s.r rs2) 8 .load = none → completes (.ldda rd rs1 false asi rs2) (s.r rs1 + s.r rs2))

/-- LDF, LDDF and LDFSR with the FPU enabled; LDFSR leaves ver, ftt and qne and opens its FBfcc window. That a word with nonzero reserved
bits loads is the model's policy (log 13). D2 and D9 as for the other loads (log 20); inside a WRPSR window as there (log 6, log 36). -/
def Obligations.FloatingPointLoadResults : Prop :=
  ∀ (s : State) (rd rs1 : Reg) (o : RegOrImm), s.efRead = true →
    let ea := s.ea rs1 o
    ((ea.toNat % 4 = 0) → s.memFault s.dasi ea 4 .load = none →
      (∃ t, exec (.ldf rd rs1 o) s = .next t ∧ sequential s t ∧ writesFp s t .single rd (s.word ea).toNat ∧ t.fsr = s.fsr
        ∧ fpopFrame s t ∧ t.haz = s.haz.age)
      ∧ ∃ t, exec (.ldfsr rd rs1 o) s = .next t ∧ sequential s t ∧ fpKept s t
        ∧ t.fsr = { rd := (s.word ea).extractLsb' 30 2, tem := (s.word ea).extractLsb' 23 5, ns := (s.word ea).getLsbD 22,
                    ftt := s.fsr.ftt, qne := s.fsr.qne, fcc := (s.word ea).extractLsb' 10 2, aexc := (s.word ea).extractLsb' 5 5,
                    cexc := (s.word ea).extractLsb' 0 5 }
        ∧ fpopFrame s t ∧ t.haz = { s.haz.age with ldfsrCount := 3 })
    ∧ (isOdd rd = false → ea.toNat % 8 = 0 → s.memFault s.dasi ea 8 .load = none →
      ∃ t, exec (.lddf rd rs1 o) s = .next t ∧ sequential s t ∧ writesFp s t .double rd (s.word ea ++ s.word (ea + 4)).toNat
        ∧ t.fsr = s.fsr ∧ fpopFrame s t ∧ t.haz = s.haz.age)

/-- The byte, halfword and word stores: the low bits of r[rd], big-endian, at the effective address; its doubleword is
marked, the other hazards age, and nothing else changes. D2 and D9 as for the loads (log 20); the mark is decision D11 (log 12).
Inside a WRPSR window as for the loads (log 6, log 36). -/
def Obligations.StoreResults : Prop :=
  ∀ (s : State) (rd rs1 rs2 : Reg) (o : RegOrImm) (asi : Asi), memWf s.mem = true →
    let completes (i : Instr) (n : Nat) (ea : Word) := ∃ t, exec i s = .next t ∧ sequential s t ∧ memKeptBut s t ea n
      ∧ (∀ k, k < n → t.byte (ea + BitVec.ofNat 32 k) = (s.r rd).extractLsb' (8 * (n - 1 - k)) 8) ∧ storeFrame s t ea
    ∀ p ∈ [(Instr.stb rd rs1 o, Instr.stba rd rs1 false asi rs2, 1), (.sth rd rs1 o, .stha rd rs1 false asi rs2, 2),
        (.st rd rs1 o, .sta rd rs1 false asi rs2, 4)],
      ((s.ea rs1 o).toNat % p.2.2 = 0 → s.memFault s.dasi (s.ea rs1 o) p.2.2 .store = none → completes p.1 p.2.2 (s.ea rs1 o))
      ∧ (s.sRead = true → asi ∈ [0x08, 0x09, 0x0A, 0x0B] → (s.r rs1 + s.r rs2).toNat % p.2.2 = 0 →
          s.memFault asi (s.r rs1 + s.r rs2) p.2.2 .store = none → completes p.2.1 p.2.2 (s.r rs1 + s.r rs2))

/-- STD and STDA with an even rd: r[rd] at the address, r[rd + 1] at the address + 4. D2, D9 and D11 as for the other stores
(log 12, log 20), and a WRPSR window as there (log 6, log 36). -/
def Obligations.DoubleStoreResults : Prop :=
  ∀ (s : State) (rd rs1 rs2 : Reg) (o : RegOrImm) (asi : Asi), memWf s.mem = true → isOdd rd = false →
    let completes (i : Instr) (ea : Word) := ∃ t, exec i s = .next t ∧ sequential s t ∧ memKeptBut s t ea 8
      ∧ t.word ea = s.r rd ∧ t.word (ea + 4) = s.r (oddReg rd) ∧ storeFrame s t ea
    ((s.ea rs1 o).toNat % 8 = 0 → s.memFault s.dasi (s.ea rs1 o) 8 .store = none → completes (.std rd rs1 o) (s.ea rs1 o))
    ∧ (s.sRead = true → asi ∈ [0x08, 0x09, 0x0A, 0x0B] → (s.r rs1 + s.r rs2).toNat % 8 = 0 →
        s.memFault asi (s.r rs1 + s.r rs2) 8 .store = none → completes (.stda rd rs1 false asi rs2) (s.r rs1 + s.r rs2))

/-- STF, STDF and STFSR with the FPU enabled. D2 and D11 as for the other stores (log 12, log 20); STFSR keeps ftt by the
default of D28 (log 19). Inside a WRPSR window as for the other stores (log 6, log 36). -/
def Obligations.FloatingPointStoreResults : Prop :=
  ∀ (s : State) (rd rs1 : Reg) (o : RegOrImm), memWf s.mem = true → s.efRead = true →
    let ea := s.ea rs1 o
    (ea.toNat % 4 = 0 → s.memFault s.dasi ea 4 .store = none → ∀ p ∈ [(Instr.stf rd rs1 o, s.fr rd), (.stfsr rd rs1 o, s.fsrWord)],
      ∃ t, exec p.1 s = .next t ∧ sequential s t ∧ memKeptBut s t ea 4 ∧ t.word ea = p.2 ∧ storeFrame s t ea)
    ∧ (isOdd rd = false → ea.toNat % 8 = 0 → s.memFault s.dasi ea 8 .store = none →
      ∃ t, exec (.stdf rd rs1 o) s = .next t ∧ sequential s t ∧ memKeptBut s t ea 8 ∧ t.word ea = s.fr rd
        ∧ t.word (ea + 4) = s.fr (oddReg rd) ∧ storeFrame s t ea)

/-- LDSTUB and LDSTUBA read a byte and leave 0xFF; SWAP and SWAPA exchange r[rd] and a word: one step. MemFault is asked for the
read and for the write (log 28); D2 and D9 as for the loads (log 20); the doubleword is marked as by a store (D11, log
12). Inside a WRPSR window as for the loads (log 6, log 36). -/
def Obligations.AtomicResults : Prop :=
  ∀ (s : State) (rd rs1 rs2 : Reg) (o : RegOrImm) (asi : Asi), memWf s.mem = true →
    let rest (t : State) := sequential s t ∧ t.psr = s.psr ∧ t.y = s.y ∧ fpuKept s t ∧ systemKept s t ∧ t.haz = s.haz.age
    let free (asi : Asi) (ea : Word) (n : Nat) := s.memFault asi ea n .atomic = none ∧ s.memFault asi ea n .store = none
    let byteDone (i : Instr) (ea : Word) := ∃ t, exec i s = .next t ∧ writesReg s t s.cwpRead rd ((s.byte ea).zeroExtend 32)
      ∧ t.byte ea = 0xFF ∧ memKeptBut s t ea 1 ∧ marksDoubleword s t ea ∧ rest t
    let wordDone (i : Instr) (ea : Word) := ∃ t, exec i s = .next t ∧ writesReg s t s.cwpRead rd (s.word ea)
      ∧ t.word ea = s.r rd ∧ memKeptBut s t ea 4 ∧ marksDoubleword s t ea ∧ rest t
    (free s.dasi (s.ea rs1 o) 1 → byteDone (.ldstub rd rs1 o) (s.ea rs1 o))
    ∧ (free s.dasi (s.ea rs1 o) 4 → (s.ea rs1 o).toNat % 4 = 0 → wordDone (.swap rd rs1 o) (s.ea rs1 o))
    ∧ (s.sRead = true → asi ∈ [0x08, 0x09, 0x0A, 0x0B] →
        (free asi (s.r rs1 + s.r rs2) 1 → byteDone (.ldstuba rd rs1 false asi rs2) (s.r rs1 + s.r rs2))
        ∧ (free asi (s.r rs1 + s.r rs2) 4 → (s.r rs1 + s.r rs2).toNat % 4 = 0 →
            wordDone (.swapa rd rs1 false asi rs2) (s.r rs1 + s.r rs2)))

/-- A misaligned effective address raises mem_address_not_aligned once the checks of higher priority pass (20_memory.md
section 3). Inside a WRPSR window as for the loads (log 6, log 8, log 36). -/
def Obligations.MisalignedAccessTraps : Prop :=
  ∀ (s : State) (rd rs1 rs2 : Reg) (o : RegOrImm) (asi : Asi),
    let ea := s.ea rs1 o; let alt := s.r rs1 + s.r rs2
    (∀ p ∈ [(Instr.ldsh rd rs1 o, 2), (.lduh rd rs1 o, 2), (.sth rd rs1 o, 2), (.ld rd rs1 o, 4), (.st rd rs1 o, 4),
        (.swap rd rs1 o, 4)], ea.toNat % p.2 ≠ 0 → traps (exec p.1 s) .memAddressNotAligned s)
    ∧ (isOdd rd = false → ea.toNat % 8 ≠ 0 → ∀ i ∈ [Instr.ldd rd rs1 o, .std rd rs1 o], traps (exec i s) .memAddressNotAligned s)
    ∧ (s.sRead = true →
        (∀ p ∈ [(Instr.ldsha rd rs1 false asi rs2, 2), (.lduha rd rs1 false asi rs2, 2), (.stha rd rs1 false asi rs2, 2),
            (.lda rd rs1 false asi rs2, 4), (.sta rd rs1 false asi rs2, 4), (.swapa rd rs1 false asi rs2, 4)],
          alt.toNat % p.2 ≠ 0 → traps (exec p.1 s) .memAddressNotAligned s)
        ∧ (isOdd rd = false → alt.toNat % 8 ≠ 0 → ∀ i ∈ [Instr.ldda rd rs1 false asi rs2, .stda rd rs1 false asi rs2],
            traps (exec i s) .memAddressNotAligned s))
    ∧ (s.efRead = true →
        (∀ p ∈ [(Instr.ldf rd rs1 o, 4), (.ldfsr rd rs1 o, 4), (.stf rd rs1 o, 4), (.stfsr rd rs1 o, 4), (.lddf rd rs1 o, 8),
            (.stdf rd rs1 o, 8)], ea.toNat % p.2 ≠ 0 → traps (exec p.1 s) .memAddressNotAligned s)
        ∧ (s.sRead = true → ea.toNat % 8 ≠ 0 → traps (exec (.stdfq rd rs1 o) s) .memAddressNotAligned s))

/-- An access MemFault answers raises the data trap the answer names, whatever the instruction. A load or store of one unit then
leaves every register and memory as it was; a doubleword access may have done its first word, an atomic whose write faults may have
written r[rd] (the model's draw; a store_error answered for its read counts as one of its write, log 28), an LDF or LDDF may have
set its destination to a constant of the model, while LDFSR leaves the FSR (log 29). A fetch it answers raises the instruction
access trap; that it does so from a doubleword on `flushPending` too is the model's choice (log 12). An alternate-space access past
its other checks that names an ASI the spec assigns to nothing is refused (R103, log 26). The fault map is the model's form of the
spec's oracle MemFault (decision D22, log 4). Inside a WRPSR window as for the loads
(log 6, log 8, log 36). -/
def Obligations.FaultingAccessesTrapUnassignedAreRefused : Prop :=
  ∀ (s : State) (rd rs1 rs2 : Reg) (o : RegOrImm) (asi : Asi) (f : AccessFault),
    let ea := s.ea rs1 o
    let alt := s.r rs1 + s.r rs2
    let faults (i : Instr) := traps (exec i s) (dataTrap f) s
    let faultsOrDone (i : Instr) (u : State) := faults i ∨ traps (exec i s) (dataTrap f) u
    let assigned := asi ∈ [0x08, 0x09, 0x0A, 0x0B]
    let units (kind : AccessKind) (p : Instr × Instr × Nat) :=
      (ea.toNat % p.2.2 = 0 → s.memFault s.dasi ea p.2.2 kind = some f → faults p.1)
      ∧ (s.sRead = true → alt.toNat % p.2.2 = 0 →
          (assigned → s.memFault asi alt p.2.2 kind = some f → faults p.2.1)
          ∧ (¬ assigned → exec p.2.1 s = .refused .unassignedAsi))
    let pairs (kind : AccessKind) (i alternate : Instr) (half : Word → State) :=
      isOdd rd = false → (ea.toNat % 8 = 0 → s.memFault s.dasi ea 8 kind = some f → faultsOrDone i (half ea))
        ∧ (s.sRead = true → alt.toNat % 8 = 0 →
            (assigned → s.memFault asi alt 8 kind = some f → faultsOrDone alternate (half alt))
            ∧ (¬ assigned → exec alternate s = .refused .unassignedAsi))
    let atomic (asi : Asi) (a : Word) (n : Nat) (i : Instr) (loaded : Word) :=
      (s.memFault asi a n .atomic = some f → f ≠ .storeError → faults i)
      ∧ (s.memFault asi a n .atomic = some f ∧ f = .storeError
            ∨ s.memFault asi a n .atomic = none ∧ s.memFault asi a n .store = some f →
          faultsOrDone i (s.setR rd loaded))
    (∀ p ∈ [(Instr.ldsb rd rs1 o, Instr.ldsba rd rs1 false asi rs2, 1), (.ldub rd rs1 o, .lduba rd rs1 false asi rs2, 1),
        (.ldsh rd rs1 o, .ldsha rd rs1 false asi rs2, 2), (.lduh rd rs1 o, .lduha rd rs1 false asi rs2, 2),
        (.ld rd rs1 o, .lda rd rs1 false asi rs2, 4)], units .load p)
    ∧ (∀ p ∈ [(Instr.stb rd rs1 o, Instr.stba rd rs1 false asi rs2, 1), (.sth rd rs1 o, .stha rd rs1 false asi rs2, 2),
        (.st rd rs1 o, .sta rd rs1 false asi rs2, 4)], units .store p)
    ∧ pairs .load (.ldd rd rs1 o) (.ldda rd rs1 false asi rs2) (fun a => s.setR rd (s.word a))
    ∧ pairs .store (.std rd rs1 o) (.stda rd rs1 false asi rs2) (fun a => s.store a (wordBytes (s.r rd)))
    ∧ (s.efRead = true →
        (ea.toNat % 4 = 0 →
          (s.memFault s.dasi ea 4 .load = some f →
            faultsOrDone (.ldf rd rs1 o) (s.setF rd Config.faultedSingle) ∧ faults (.ldfsr rd rs1 o))
          ∧ (s.memFault s.dasi ea 4 .store = some f → faults (.stf rd rs1 o) ∧ faults (.stfsr rd rs1 o)))
        ∧ (isOdd rd = false → ea.toNat % 8 = 0 →
          (s.memFault s.dasi ea 8 .load = some f → faultsOrDone (.lddf rd rs1 o) (s.setFD rd Config.faultedDouble))
          ∧ (s.memFault s.dasi ea 8 .store = some f →
            faultsOrDone (.stdf rd rs1 o) (s.store ea (wordBytes (s.fr rd))))))
    ∧ atomic s.dasi ea 1 (.ldstub rd rs1 o) ((s.byte ea).zeroExtend 32)
    ∧ (ea.toNat % 4 = 0 → atomic s.dasi ea 4 (.swap rd rs1 o) (s.word ea))
    ∧ (s.sRead = true →
        (assigned → atomic asi alt 1 (.ldstuba rd rs1 false asi rs2) ((s.byte alt).zeroExtend 32))
        ∧ (¬ assigned → exec (.ldstuba rd rs1 false asi rs2) s = .refused .unassignedAsi)
        ∧ (alt.toNat % 4 = 0 →
          (assigned → atomic asi alt 4 (.swapa rd rs1 false asi rs2) (s.word alt))
          ∧ (¬ assigned → exec (.swapa rd rs1 false asi rs2) s = .refused .unassignedAsi)))
    ∧ (s.errorMode = false → s.interruptTaken = false → s.memFault s.iasi s.pc 4 .fetch = some f →
        step s = tickResult (raise (if f = .error then .instructionAccessError else .instructionAccessException) s))

/-! ### Privilege and enables -/

/-- The privileged instructions raise privileged_instruction in user mode before any other check; RETT where traps are enabled,
with or without a JMPL before it, where R716 refuses (log 11). Inside a WRPSR window the S and ET tested, and what the trap uses,
are the model's free values and draws (log 6, log 8); error_mode then tells RETT's type, as R612 has it (log 16). -/
def Obligations.PrivilegedInstructionsTrapInUserMode : Prop :=
  ∀ (s : State) (rd rs1 rs2 : Reg) (o : RegOrImm) (i : Bool) (asi : Asi), s.sRead = false →
    (∀ x ∈ [Instr.ldsba rd rs1 i asi rs2, .ldsha rd rs1 i asi rs2, .lduba rd rs1 i asi rs2, .lduha rd rs1 i asi rs2,
        .lda rd rs1 i asi rs2, .ldda rd rs1 i asi rs2, .stba rd rs1 i asi rs2, .stha rd rs1 i asi rs2, .sta rd rs1 i asi rs2,
        .stda rd rs1 i asi rs2, .ldstuba rd rs1 i asi rs2, .swapa rd rs1 i asi rs2, .stdfq rd rs1 o, .stdcq rd rs1 o, .rdpsr rd,
        .rdwim rd, .rdtbr rd, .wrpsr rs1 o, .wrwim rs1 o, .wrtbr rs1 o], traps (exec x s) .privilegedInstruction s)
    ∧ (s.etRead = true → exec (.rett rs1 o) s
        = .next (if s.trapEt then s.trapEntry 0x03 else { s with errorMode := true, tbr := { s.tbr with tt := 0x03 } }))

/-- Every floating-point instruction raises fp_disabled with EF = 0, STDFQ after its privilege check. Inside a WRPSR window that
changed them EF, S and what the trap uses are the model's free values and draws (log 6, log 8). -/
def Obligations.FpuDisabledTraps : Prop :=
  ∀ (s : State) (rd rs1 rs2 : Reg) (o : RegOrImm) (a : Bool) (d : BitVec 22), s.efRead = false →
    (∀ i ∈ [Instr.ldf rd rs1 o, .lddf rd rs1 o, .ldfsr rd rs1 o, .stf rd rs1 o, .stdf rd rs1 o, .stfsr rd rs1 o,
        .fba a d, .fbn a d, .fbu a d, .fbg a d, .fbug a d, .fbl a d, .fbul a d, .fblg a d, .fbne a d, .fbe a d, .fbue a d,
        .fbge a d, .fbuge a d, .fble a d, .fbule a d, .fbo a d,
        .fcmps rs1 rs2, .fcmpd rs1 rs2, .fcmpq rs1 rs2, .fcmpes rs1 rs2, .fcmped rs1 rs2, .fcmpeq rs1 rs2],
      traps (exec i s) .fpDisabled s)
    ∧ (∀ i, (fpopSpec s i).isSome = true → traps (exec i s) .fpDisabled s)
    ∧ (s.sRead = true → traps (exec (.stdfq rd rs1 o) s) .fpDisabled s)

/-- With no coprocessor every coprocessor instruction raises cp_disabled, STDCQ after its privilege check. That there is none is
the spec's own decision D16 (log 27). Inside a WRPSR window S and what the trap uses are free values and draws (log 6, log 8). -/
def Obligations.CoprocessorInstructionsTrap : Prop :=
  ∀ (s : State) (rd rs1 rs2 : Reg) (o : RegOrImm) (a : Bool) (d : BitVec 22) (opc : BitVec 9),
    (∀ i ∈ [Instr.ldc rd rs1 o, .lddc rd rs1 o, .ldcsr rd rs1 o, .stc rd rs1 o, .stdc rd rs1 o, .stcsr rd rs1 o,
        .cba a d, .cbn a d, .cb3 a d, .cb2 a d, .cb23 a d, .cb1 a d, .cb13 a d, .cb12 a d, .cb123 a d, .cb0 a d, .cb03 a d,
        .cb02 a d, .cb023 a d, .cb01 a d, .cb013 a d, .cb012 a d, .cpop1 rd rs1 opc rs2, .cpop2 rd rs1 opc rs2],
      traps (exec i s) .cpDisabled s)
    ∧ (s.sRead = true → traps (exec (.stdcq rd rs1 o) s) .cpDisabled s)

/-- illegal_instruction: UNIMP always; alternate-space forms with i = 1 in supervisor mode; LDD, LDDA, STD, STDA with an odd rd;
WRPSR of a CWP that no window has. That an odd rd traps is the spec's default of D14 (log 19). Inside a WRPSR window S, the r
registers and what the trap uses are free values and draws (log 6, log 8, log 36). -/
def Obligations.IllegalInstructionTraps : Prop :=
  ∀ (s : State) (const22 : BitVec 22) (rd rs1 rs2 : Reg) (o : RegOrImm) (asi : Asi),
    traps (exec (.unimp const22) s) .illegalInstruction s
    ∧ (s.sRead = true → ∀ x ∈ [Instr.ldsba rd rs1 true asi rs2, .ldsha rd rs1 true asi rs2, .lduba rd rs1 true asi rs2,
        .lduha rd rs1 true asi rs2, .lda rd rs1 true asi rs2, .ldda rd rs1 true asi rs2, .stba rd rs1 true asi rs2,
        .stha rd rs1 true asi rs2, .sta rd rs1 true asi rs2, .stda rd rs1 true asi rs2, .ldstuba rd rs1 true asi rs2,
        .swapa rd rs1 true asi rs2], traps (exec x s) .illegalInstruction s)
    ∧ (isOdd rd = true → (∀ x ∈ [Instr.ldd rd rs1 o, .std rd rs1 o], traps (exec x s) .illegalInstruction s)
        ∧ (s.sRead = true → ∀ x ∈ [Instr.ldda rd rs1 false asi rs2, .stda rd rs1 false asi rs2],
            traps (exec x s) .illegalInstruction s))
    ∧ (s.sRead = true → Config.nwindows ≤ (s.r rs1 ^^^ s.op2 o).toNat % 32 → traps (exec (.wrpsr rs1 o) s) .illegalInstruction s)

/-! ### State registers and FLUSH -/

/-- RDY in either mode, RDPSR, RDWIM and RDTBR in supervisor mode complete; with no delayed write pending they deliver the
register. Inside an open window what they deliver is the model's free value of the changed field (log 6, log 36). impl and ver are
parameters of the spec (decision D25, log 19). -/
def Obligations.ReadStateRegisterResults : Prop :=
  ∀ (s : State) (rd : Reg),
    let completes (i : Instr) (v : Word) := ∃ t, exec i s = .next t ∧ sequential s t ∧ writesReg s t s.cwpRead rd v
      ∧ t.psr = s.psr ∧ t.y = s.y ∧ integerFrame s t
    completes (.rdy rd) s.yRead
    ∧ (s.sRead = true → completes (.rdpsr rd) s.psrWord ∧ completes (.rdwim rd) s.wimRead ∧ completes (.rdtbr rd) s.tbrWord)
    ∧ (s.Settled → s.yRead = s.y ∧ s.wimRead = wimMask &&& s.wim ∧ s.tbrWord = s.tbr.tba ++ s.tbr.tt ++ 0#4
        ∧ s.psrWord = Config.psrImpl ++ Config.psrVer ++ BitVec.ofBool s.psr.icc.n ++ BitVec.ofBool s.psr.icc.z
            ++ BitVec.ofBool s.psr.icc.v ++ BitVec.ofBool s.psr.icc.c ++ 0#6 ++ 0#1 ++ BitVec.ofBool s.psr.ef ++ s.psr.pil
            ++ BitVec.ofBool s.psr.s ++ BitVec.ofBool s.psr.ps ++ BitVec.ofBool s.psr.et ++ s.psr.cwp)

/-- WRY, and in supervisor mode WRPSR, WRWIM and WRTBR, write r[rs1] xor op2 at once and open, or open again, a window of three
instructions over the fields they changed, each with the first old value (44_state_register_misc.md section 2,
70_reset_and_hazards.md section 2); a WRPSR that changes PIL and takes ET from 0 to 1 opens its quirk as well. The windows are the
spec's own decision D19 (log 6, log 7); inside one, what the instruction reads is free (log 6, log 36), and the record of the quirk
is the model's (log 18). That a value with nonzero reserved bits is written is the model's policy (log 13); EC stays 0 without a
coprocessor (log 27). -/
def Obligations.WriteStateRegisterResults : Prop :=
  ∀ (s : State) (rs1 : Reg) (o : RegOrImm),
    let v := s.r rs1 ^^^ s.op2 o
    let rest (t : State) := sequential s t ∧ regsKept s t ∧ memKept s t ∧ fpuKept s t ∧ t.errorMode = s.errorMode
      ∧ t.flushPending = flushAge s.flushPending ∧ t.memFaults = s.memFaults ∧ t.irl = s.irl ∧ t.freeCount = s.freeCount
    (∃ t, exec (.wry rs1 o) s = .next t ∧ rest t ∧ t.y = v ∧ t.psr = s.psr ∧ t.wim = s.wim ∧ t.tbr = s.tbr
      ∧ t.haz = { s.haz.age with y := t.haz.y } ∧ t.haz.y.count = 3 ∧ keepsOld s.haz.y.count s.haz.y.old t.haz.y.old s.y v)
    ∧ (s.sRead = true → v.toNat % 32 < Config.nwindows →
        ∃ t, exec (.wrpsr rs1 o) s = .next t ∧ rest t ∧ t.y = s.y ∧ t.wim = s.wim ∧ t.tbr = s.tbr
          ∧ t.psr = { icc := ⟨v.getLsbD 23, v.getLsbD 22, v.getLsbD 21, v.getLsbD 20⟩, ec := false, ef := v.getLsbD 12,
                      pil := v.extractLsb' 8 4, s := v.getLsbD 7, ps := v.getLsbD 6, et := v.getLsbD 5, cwp := v.extractLsb' 0 5 }
          ∧ t.haz = { s.haz.age with psr := t.haz.psr, pilQuirks := t.haz.pilQuirks } ∧ t.haz.psr.count = 3
          ∧ keepsOld s.haz.psr.count s.haz.psr.icc t.haz.psr.icc s.psr.icc t.psr.icc
          ∧ keepsOld s.haz.psr.count s.haz.psr.ec t.haz.psr.ec s.psr.ec t.psr.ec
          ∧ keepsOld s.haz.psr.count s.haz.psr.ef t.haz.psr.ef s.psr.ef t.psr.ef
          ∧ keepsOld s.haz.psr.count s.haz.psr.pil t.haz.psr.pil s.psr.pil t.psr.pil
          ∧ keepsOld s.haz.psr.count s.haz.psr.s t.haz.psr.s s.psr.s t.psr.s
          ∧ keepsOld s.haz.psr.count s.haz.psr.ps t.haz.psr.ps s.psr.ps t.psr.ps
          ∧ keepsOld s.haz.psr.count s.haz.psr.et t.haz.psr.et s.psr.et t.psr.et
          ∧ keepsOld s.haz.psr.count s.haz.psr.cwp t.haz.psr.cwp s.psr.cwp t.psr.cwp
          ∧ t.haz.pilQuirks = (if s.psr.pil ≠ t.psr.pil ∧ s.psr.et = false ∧ t.psr.et = true then [⟨3, s.psr.pil⟩] else [])
              ++ s.haz.age.pilQuirks)
    ∧ (s.sRead = true →
        (∃ t, exec (.wrwim rs1 o) s = .next t ∧ rest t ∧ t.wim = wimMask &&& v ∧ t.psr = s.psr ∧ t.y = s.y ∧ t.tbr = s.tbr
          ∧ t.haz = { s.haz.age with wim := t.haz.wim } ∧ t.haz.wim.count = 3
          ∧ keepsOld s.haz.wim.count s.haz.wim.old t.haz.wim.old s.wim (wimMask &&& v))
        ∧ ∃ t, exec (.wrtbr rs1 o) s = .next t ∧ rest t ∧ t.tbr = { tba := v.extractLsb' 12 20, tt := s.tbr.tt } ∧ t.psr = s.psr
          ∧ t.y = s.y ∧ t.wim = s.wim ∧ t.haz = { s.haz.age with tbr := t.haz.tbr } ∧ t.haz.tbr.count = 3
          ∧ keepsOld s.haz.tbr.count s.haz.tbr.old t.haz.tbr.old s.tbr.tba (v.extractLsb' 12 20))

/-- Ancillary state registers: RDASR 1 to 14 completes with a value the model leaves free (log 24); RDASR 16 to 31 and WRASR 16 to
31 raise illegal_instruction (none is implemented, log 19); the reserved RDASR 15 and WRASR 1 to 15 are refused (log 25).
Inside a WRPSR window r[rd] is of the model's free window (log 6, log 36). -/
def Obligations.AncillaryRegisterAccess : Prop :=
  ∀ (s : State) (rd rs1 n : Reg) (o : RegOrImm),
    (0 < n.toNat → n.toNat < 15 → ∃ t v, exec (.rdasr rd n) s = .next t ∧ sequential s t ∧ writesReg s t s.cwpRead rd v
      ∧ t.psr = s.psr ∧ t.y = s.y ∧ integerFrame s t)
    ∧ (rd ≠ 0 → exec (.rdasr rd 15) s = .refused .reservedAsr)
    ∧ (0 < n.toNat → n.toNat < 16 → exec (.wrasr n rs1 o) s = .refused .reservedAsr)
    ∧ (16 ≤ n.toNat → traps (exec (.rdasr rd n) s) .illegalInstruction s ∧ traps (exec (.wrasr n rs1 o) s) .illegalInstruction s)

/-- FLUSH completes, touching nothing but the coherence of the doubleword it names: for one stored to it starts a countdown of
FLUSH_LATENCY, one not stored to stays coherent (20_memory.md section 5). Each later instruction takes one from a countdown, and at
its end the doubleword is coherent; a dirty one stays dirty (70_reset_and_hazards.md section 2). Until then a fetch from it returns
the model's free word (log 12). The list, the latency and that FLUSH does not trap are decisions D11 and D20 with their defaults
(log 12, log 19, log 35). Inside a WRPSR window as for the loads (log 6, log 36). -/
def Obligations.FlushCompletes : Prop :=
  (∀ (s : State) (rs1 : Reg) (o : RegOrImm), let d := doublewordOf (s.ea rs1 o)
    ∃ t, exec (.flush rs1 o) s = .next t ∧ sequential s t ∧ regsKept s t ∧ t.psr = s.psr ∧ t.y = s.y ∧ memKept s t ∧ fpuKept s t
      ∧ systemKept s t ∧ t.haz = s.haz.age
      ∧ flushFind t.flushPending d = (if (flushFind s.flushPending d).isSome then some (.counting Config.flushLatency) else none)
      ∧ ∀ e, e ≠ d → flushFind t.flushPending e = flushFind (flushAge s.flushPending) e)
  ∧ (∀ (l : List (Nat × FlushStatus)) (d : Nat), flushWf l → ∀ j : Nat,
      flushFind (flushAge^[j] l) d = match flushFind l d with
        | none => none
        | some .dirty => some .dirty
        | some (.counting k) => if j < k then some (.counting (k - j)) else none)
  ∧ ∀ s : State, s.errorMode = false → s.interruptTaken = false → s.memFault s.iasi s.pc 4 .fetch = none →
      (flushFind s.flushPending (doublewordOf s.pc)).isSome = true →
      step s = tickResult (execWord (Config.freeFetchWord s.freeCount) s)

/-! ### FPops -/

/-- The 32 FPop1 instructions with EF = 1, legal register numbers and no enabled exception: the result of their function in the
destination, cexc, aexc and ftt as the completion rule says. With FSR.NS = 1 the result and its exceptions are the model's free
values (log 14). The arithmetic is the model's rendering of IEEE 754 (decision D30, log 21); NaN results and invalid integers
are free (log 22, log 23). Inside a WRPSR window that changed EF the enable tested is the model's free value (log 6). -/
def Obligations.FpopCompletes : Prop :=
  ∀ (s : State) (i : Instr) (d : FpopSpec), fpopSpec s i = some d → s.efRead = true → d.misaligned = false →
    let r : FpResult := if s.fsr.ns then ⟨Config.freeNsResult s.freeCount, Config.freeNsExc s.freeCount &&& d.allowed⟩ else d.result
    r.exc &&& s.fsr.tem = 0 →
    ∃ t, exec i s = .next t ∧ sequential s t ∧ writesFp s t d.dst d.rd r.bits
      ∧ t.fsr = { s.fsr with ftt := 0, cexc := r.exc, aexc := s.fsr.aexc ||| r.exc } ∧ fpopFrame s t ∧ t.haz = s.haz.age

/-- The compares with EF = 1 and legal register numbers: fcc by the relation of the two operands, NV for a signaling NaN, and
for a quiet one in FCMPE; no f register is written, and the next FBfcc is in their hazard. The relation of two finite operands is
that of their values, +0 equal to -0; infinities are ordered; a NaN is unordered (45_fpop_cpop.md section 9). With FSR.NS = 1 fcc
and NV are the model's free values (log 14). The relation is the model's rendering of IEEE 754 (decision D30, log 21). Inside a
WRPSR window that changed EF the enable tested is the model's free value (log 6). -/
def Obligations.FpCompareResults : Prop :=
  (∀ (s : State) (rs1 rs2 : Reg), s.efRead = true →
    ∀ p ∈ [(Instr.fcmps rs1 rs2, FpFormat.single, false), (.fcmpd rs1 rs2, .double, false), (.fcmpq rs1 rs2, .quad, false),
        (.fcmpes rs1 rs2, .single, true), (.fcmped rs1 rs2, .double, true), (.fcmpeq rs1 rs2, .quad, true)],
      fpMisaligned p.2.1 rs1 = false → fpMisaligned p.2.1 rs2 = false →
      let rel := fpCompare p.2.1 (s.fpOperand p.2.1 rs1) (s.fpOperand p.2.1 rs2)
      let fcc : BitVec 2 := if s.fsr.ns then BitVec.ofNat 2 (Config.freeNsResult s.freeCount) else rel.fcc
      let exc : FpExc := if s.fsr.ns then Config.freeNsExc s.freeCount &&& excNV
        else if rel.snan || (p.2.2 && rel.qnan) then excNV else 0
      (exc &&& s.fsr.tem = 0 →
        ∃ t, exec p.1 s = .next t ∧ sequential s t ∧ fpKept s t ∧ fpopFrame s t
          ∧ t.fsr = { s.fsr with fcc := fcc, ftt := 0, cexc := exc, aexc := s.fsr.aexc ||| exc }
          ∧ t.haz = { s.haz.age with fpop2Prev := true })
      ∧ (exc &&& s.fsr.tem ≠ 0 →
        traps (exec p.1 s) .fpException { s with fsr := { s.fsr with ftt := 1, cexc := excNV } }))
  ∧ ∀ (fmt : FpFormat) (x y : Nat), let u := fpUnpack fmt x; let v := fpUnpack fmt y; let rel := fpCompare fmt x y
      (u.isNan = true ∨ v.isNan = true → rel.fcc = 3)
      ∧ rel.snan = (u.isSignaling || v.isSignaling)
      ∧ rel.qnan = (u.isNan && !u.isSignaling || v.isNan && !v.isSignaling)
      ∧ (∀ a b : ℝ, u.IsReal a → v.IsReal b → (a = b → rel.fcc = 0) ∧ (a < b → rel.fcc = 1) ∧ (b < a → rel.fcc = 2))
      ∧ (∀ (sign : Bool) (b : ℝ), u = .infinity sign → v.IsReal b → rel.fcc = if sign then 1 else 2)
      ∧ (∀ (a : ℝ) (sign : Bool), u.IsReal a → v = .infinity sign → rel.fcc = if sign then 2 else 1)
      ∧ ∀ su sv : Bool, u = .infinity su → v = .infinity sv → rel.fcc = if su = sv then 0 else if su then 1 else 2

/-- An FPop1 whose result raises an exception TEM enables traps with ftt = 1 and one bit of cexc, the most significant of the
enabled ones; aexc, fcc and the f registers keep their values (45_fpop_cpop.md section 1). With FSR.NS = 1 the exceptions are
the model's free value (log 14). Which of two enabled bits is left in cexc is the spec's own decision D17 (log 38). Inside a WRPSR
window EF and what the trap uses are free values and draws (log 6, log 8). -/
def Obligations.FpopExceptionTraps : Prop :=
  ∀ (s : State) (i : Instr) (d : FpopSpec), fpopSpec s i = some d → s.efRead = true → d.misaligned = false →
    let exc := (if s.fsr.ns then Config.freeNsExc s.freeCount &&& d.allowed else d.result.exc) &&& s.fsr.tem
    exc ≠ 0 →
    ∃ bit ∈ [excNV, excOF, excUF, excDZ, excNX], bit &&& exc ≠ 0 ∧ exc.toNat < 2 * bit.toNat
      ∧ traps (exec i s) .fpException { s with fsr := { s.fsr with ftt := 1, cexc := bit } }

/-- A double or quad register number that is no multiple of its size raises fp_exception with ftt = 6 in FPops, LDDF and STDF;
STDFQ in a machine without an FQ raises it with ftt = sequence_error, 4 (45_fpop_cpop.md section 1, 40_load_store.md sections 3
and 6). Both are defaults of the spec, decisions D15 and D17 (log 19, log 32). That a misaligned number traps so with FSR.NS = 1 as
well, where R540 refuses first, is the model's choice (log 14). Inside a WRPSR window EF, S, the r registers and what the trap uses
are free values and draws (log 6, log 8, log 36). -/
def Obligations.FpRegisterAndQueueChecksTrap : Prop :=
  ∀ (s : State) (rd rs1 rs2 : Reg) (o : RegOrImm), s.efRead = true →
    let invalid := { s with fsr := { s.fsr with ftt := 6 } }
    (∀ (i : Instr) (d : FpopSpec), fpopSpec s i = some d → d.misaligned = true → traps (exec i s) .fpException invalid)
    ∧ ((rs1.toNat % 2 ≠ 0 ∨ rs2.toNat % 2 ≠ 0) →
        ∀ i ∈ [Instr.fcmpd rs1 rs2, .fcmped rs1 rs2], traps (exec i s) .fpException invalid)
    ∧ ((rs1.toNat % 4 ≠ 0 ∨ rs2.toNat % 4 ≠ 0) →
        ∀ i ∈ [Instr.fcmpq rs1 rs2, .fcmpeq rs1 rs2], traps (exec i s) .fpException invalid)
    ∧ (rd.toNat % 2 ≠ 0 → (s.ea rs1 o).toNat % 8 = 0 →
        ∀ i ∈ [Instr.lddf rd rs1 o, .stdf rd rs1 o], traps (exec i s) .fpException invalid)
    ∧ (s.sRead = true → (s.ea rs1 o).toNat % 8 = 0 →
        traps (exec (.stdfq rd rs1 o) s) .fpException { s with fsr := { s.fsr with ftt := 4 } })

/-- The arithmetic of the FPops (45_fpop_cpop.md sections 1 to 8). The value of an operand is read from its sign, exponent and
fraction. A sum, difference, product, quotient, square root, change of format or converted integer that is not 0 is the exact real
result rounded once (`RoundsTo`); conversion to an integer truncates. Zeros, infinities, NaNs and the invalid operations are as the
tables say. An integer converted to double keeps its value, raises no exception and converts back to itself. All of this is the
model's rendering of IEEE 754 (decision D30, log 21); that a NaN delivered is quiet is its choice (log 22), and the integer of an
invalid conversion is free (log 23). -/
def Obligations.FpArithmeticIsCorrectlyRounded : Prop :=
  (∀ (sign : Bool) (e : BitVec 8) (g : BitVec 23), fpUnpack .single (BitVec.ofBool sign ++ e ++ g).toNat =
      if e = 0xFF then (if g = 0 then .infinity sign else .nan (!g.msb))
      else if e = 0 then .finite sign g.toNat (-149) else .finite sign (2 ^ 23 + g.toNat) ((e.toNat : Int) - 150))
  ∧ (∀ (sign : Bool) (e : BitVec 11) (g : BitVec 52), fpUnpack .double (BitVec.ofBool sign ++ e ++ g).toNat =
      if e = 0x7FF then (if g = 0 then .infinity sign else .nan (!g.msb))
      else if e = 0 then .finite sign g.toNat (-1074) else .finite sign (2 ^ 52 + g.toNat) ((e.toNat : Int) - 1075))
  ∧ (∀ (sign : Bool) (e : BitVec 15) (g : BitVec 112), fpUnpack .quad (BitVec.ofBool sign ++ e ++ g).toNat =
      if e = 0x7FFF then (if g = 0 then .infinity sign else .nan (!g.msb))
      else if e = 0 then .finite sign g.toNat (-16494) else .finite sign (2 ^ 112 + g.toNat) ((e.toNat : Int) - 16495))
  ∧ (∀ (fmt dst : FpFormat) (rnd : BitVec 2) (ufm : Bool) (src : NanSource) (flip : Bool) (a b : ℝ),
      (fpUnpack fmt src.x).IsReal a → (fpUnpack fmt src.y).IsReal b → let c := if flip then a - b else a + b
      (c ≠ 0 → RoundsTo fmt rnd ufm c (fpAdd fmt rnd ufm src flip))
      ∧ (a * b ≠ 0 → RoundsTo dst rnd ufm (a * b) (fpMul fmt dst rnd ufm src))
      ∧ (a ≠ 0 → b ≠ 0 → RoundsTo fmt rnd ufm (a / b) (fpDiv fmt rnd ufm src))
      ∧ (0 < b → RoundsTo fmt rnd false (Real.sqrt b) (fpSqrt fmt rnd src))
      ∧ (b ≠ 0 → RoundsTo dst rnd ufm b (fpConvert fmt dst rnd ufm src)))
  ∧ (∀ (fmt : FpFormat) (rnd : BitVec 2) (w : Word), (w ≠ 0 → RoundsTo fmt rnd false w.toInt (fpFromInt fmt rnd w))
      ∧ (fpFromInt fmt rnd 0).IsZero fmt false)
  ∧ (∀ (fmt : FpFormat) (opf : BitVec 9) (x : Nat),
      (∀ (a : ℝ) (n : ℤ), (fpUnpack fmt x).IsReal a → (0 ≤ a → n = ⌊a⌋) → (a ≤ 0 → n = ⌈a⌉) →
        (-2 ^ 31 ≤ n → n < 2 ^ 31 → (a = n → fpToInt fmt opf x = ⟨(BitVec.ofInt 32 n).toNat, excNone⟩)
          ∧ (a ≠ n → fpToInt fmt opf x = ⟨(BitVec.ofInt 32 n).toNat, excNX⟩))
        ∧ (n < -2 ^ 31 ∨ 2 ^ 31 ≤ n → (fpToInt fmt opf x).exc = excNV))
      ∧ ((∀ a : ℝ, ¬ (fpUnpack fmt x).IsReal a) → (fpToInt fmt opf x).exc = excNV))
  ∧ (∀ (fmt dst : FpFormat) (rnd : BitVec 2) (ufm : Bool) (src : NanSource) (flip : Bool),
      let x := fpUnpack fmt src.x
      let y := fpUnpack fmt src.y
      let sum := fpAdd fmt rnd ufm src flip
      let product := fpMul fmt dst rnd ufm src
      let quotient := fpDiv fmt rnd ufm src
      let root := fpSqrt fmt rnd src
      let converted := fpConvert fmt dst rnd ufm src
      (∀ sx mx ex sy my ey, x = .finite sx mx ex → y = .finite sy my ey →
        (∀ a b : ℝ, x.IsReal a → y.IsReal b → (if flip then a - b else a + b) = 0 →
          sum.IsZero fmt (if sx = (sy ^^ flip) then sx else rnd == 3))
        ∧ (mx = 0 ∨ my = 0 → product.IsZero dst (sx ^^ sy))
        ∧ (mx = 0 → my ≠ 0 → quotient.IsZero fmt (sx ^^ sy))
        ∧ (mx ≠ 0 → my = 0 → quotient.IsInfinity fmt (sx ^^ sy) excDZ)
        ∧ (mx = 0 → my = 0 → quotient.IsQuietNan fmt excNV)
        ∧ (my = 0 → root.IsZero fmt sy ∧ converted.IsZero dst sy)
        ∧ (my ≠ 0 → sy = true → root.IsQuietNan fmt excNV))
      ∧ (∀ sx sy, x = .infinity sx → y = .infinity sy →
        (if sx = (sy ^^ flip) then sum.IsInfinity fmt sx excNone else sum.IsQuietNan fmt excNV)
        ∧ product.IsInfinity dst (sx ^^ sy) excNone ∧ quotient.IsQuietNan fmt excNV)
      ∧ (∀ sx sy my ey, x = .infinity sx → y = .finite sy my ey → sum.IsInfinity fmt sx excNone
        ∧ (if my = 0 then product.IsQuietNan dst excNV else product.IsInfinity dst (sx ^^ sy) excNone)
        ∧ quotient.IsInfinity fmt (sx ^^ sy) excNone)
      ∧ (∀ sx mx ex sy, x = .finite sx mx ex → y = .infinity sy → sum.IsInfinity fmt (sy ^^ flip) excNone
        ∧ (if mx = 0 then product.IsQuietNan dst excNV else product.IsInfinity dst (sx ^^ sy) excNone)
        ∧ quotient.IsZero fmt (sx ^^ sy))
      ∧ (∀ sy, y = .infinity sy → converted.IsInfinity dst sy excNone
        ∧ if sy then root.IsQuietNan fmt excNV else root.IsInfinity fmt false excNone)
      ∧ (x.isNan = true ∨ y.isNan = true → let exc := if x.isSignaling || y.isSignaling then excNV else excNone
        sum.IsQuietNan fmt exc ∧ product.IsQuietNan dst exc ∧ quotient.IsQuietNan fmt exc)
      ∧ (y.isNan = true → let exc := if y.isSignaling then excNV else excNone
        root.IsQuietNan fmt exc ∧ converted.IsQuietNan dst exc))
  ∧ ∀ (w : Word) (rnd : BitVec 2), (fpFromInt .double rnd w).exc = 0
    ∧ fpToInt .double 0x0D2 (fpFromInt .double rnd w).bits = ⟨w.toNat, 0⟩

/-! ### Whole-machine rules -/

/-- A step in user mode leaves WIM, TBA, EC, EF and PIL, and leaves user mode only through a trap entry: supervisor mode with
traps disabled at a vector of the trap table (60_exceptions.md section 5). -/
def Obligations.UserModeKeepsPrivilegedState : Prop :=
  ∀ s t : State, s.haz.psr.count = 0 → s.psr.s = false → step s = .next t →
    t.wim = s.wim ∧ t.tbr.tba = s.tbr.tba ∧ t.psr.ec = s.psr.ec ∧ t.psr.ef = s.psr.ef ∧ t.psr.pil = s.psr.pil
    ∧ ((t.psr.s = false ∧ t.psr.ps = s.psr.ps ∧ t.psr.et = s.psr.et)
      ∨ (s.psr.et = true ∧ t.psr.s = true ∧ t.psr.ps = false ∧ t.psr.et = false ∧ t.pc = s.trapTba ++ t.tbr.tt ++ 0#4))

/-- With the FPU disabled no step changes an f register or the FSR (10_state.md section 4, EF). -/
def Obligations.DisabledFpuKeepsItsState : Prop :=
  ∀ s t : State, s.haz.psr.count = 0 → s.psr.ef = false → step s = .next t → fpuKept s t

/-- Memory changes only through stores, and only in the bytes the store addresses, whatever the instruction and whether it
completes or traps. Inside a WRPSR window that changed CWP those addresses are of the model's free window (log 6, log 36). -/
def Obligations.OnlyStoresChangeMemory : Prop :=
  ∀ (i : Instr) (s t : State), exec i s = .next t →
    match storeRange i s with
    | none => memKept s t
    | some (ea, n) => memKeptBut s t ea n

/-- The hazards settle, whatever the instruction and whether it completes or traps; only error_mode keeps them (70_reset_and_hazards.md
section 2). One that is not itself the write of a state register brings that register's window, and the LDFSR window, one instruction
nearer its end, or to its end. Open quirks of WRPSR are one step nearer their end (log 18). The mark of the last instruction is left by
a compare, a conditional branch, a JMPL alone. The countdowns of FLUSH fall by one, or stay where the instruction traps. The windows
are the spec's own decision D19. Inside a WRPSR window the instruction is of the model's free values (log 6, log 36). -/
def Obligations.DelayedWritesSettle : Prop :=
  ∀ (i : Instr) (s t : State), exec i s = .next t → t.errorMode = true ∨
    let trapped := ∃ (x : Trap) (u : State), traps (exec i s) x u
    let falls (before after : Nat) := after = before - 1 ∨ trapped ∧ after = 0
    ((∀ rs1 o, i ≠ .wrpsr rs1 o) → falls s.haz.psr.count t.haz.psr.count
        ∧ (t.haz.psr.count ≠ 0 → t.haz.psr = { s.haz.psr with count := t.haz.psr.count }))
    ∧ ((∀ rs1 o, i ≠ .wrwim rs1 o) → falls s.haz.wim.count t.haz.wim.count
        ∧ (t.haz.wim.count ≠ 0 → t.haz.wim = { s.haz.wim with count := t.haz.wim.count }))
    ∧ ((∀ rs1 o, i ≠ .wrtbr rs1 o) → falls s.haz.tbr.count t.haz.tbr.count
        ∧ (t.haz.tbr.count ≠ 0 → t.haz.tbr = { s.haz.tbr with count := t.haz.tbr.count }))
    ∧ ((∀ rs1 o, i ≠ .wry rs1 o) → falls s.haz.y.count t.haz.y.count
        ∧ (t.haz.y.count ≠ 0 → t.haz.y = { s.haz.y with count := t.haz.y.count }))
    ∧ ((∀ rd rs1 o, i ≠ .ldfsr rd rs1 o) → falls s.haz.ldfsrCount t.haz.ldfsrCount)
    ∧ ((∀ rs1 o, i ≠ .wrpsr rs1 o) → t.haz.pilQuirks =
        (s.haz.pilQuirks.filter (fun q => 1 < q.count)).map (fun q => { q with count := q.count - 1 }))
    ∧ (t.haz.fpop2Prev = true → isCompare i = true)
    ∧ (t.haz.prevCondBranch = true → isConditionalBranch i = true)
    ∧ (t.haz.prevJmpl = true → isJmpl i = true)
    ∧ (storeRange i s = none → (∀ rs1 o, i ≠ .flush rs1 o) →
        t.flushPending = flushAge s.flushPending ∨ trapped ∧ t.flushPending = s.flushPending)

end
end

