-- ==== Sys2Proof/Laws/Decode.lean ====
section
/-! SUPPORT. What the decoder reads back from the words the encoder builds: one lemma per field and one per decode table. -/

namespace Sys2Proof.Laws

/-- The low part of a concatenation. -/
theorem extract_low {m n : Nat} (x : BitVec m) (y : BitVec n) : (x ++ y).extractLsb' 0 n = y := by
  ext i hi; simp [BitVec.getLsbD_append, hi]

/-- A field of a concatenation that lies above its low part. -/
theorem extract_skip {m n k l : Nat} (x : BitVec m) (y : BitVec n) :
    (x ++ y).extractLsb' (k + n) l = x.extractLsb' k l := by
  ext i hi
  simp only [BitVec.getElem_extractLsb', BitVec.getLsbD_append]
  rw [if_neg (by omega)]; congr 1; omega

/-- The whole of a bit vector. -/
theorem extract_full {m : Nat} (x : BitVec m) : x.extractLsb' 0 m = x := by
  ext i hi; simp

/-- A bit of a concatenation that lies above its low part. -/
theorem bit_skip {m n k : Nat} (x : BitVec m) (y : BitVec n) : (x ++ y).getLsbD (k + n) = x.getLsbD k := by
  rw [BitVec.getLsbD_append, if_neg (by omega)]; congr 1; omega

variable (rd rs1 rs2 : Reg) (op : BitVec 2) (op2 : BitVec 3) (op3 : BitVec 6) (low : BitVec 14) (imm22 : BitVec 22)

@[simp] theorem opField_format3 : opField (format3 op rd op3 rs1 low) = op :=
  (extract_skip (k := 16) _ low).trans <| (extract_skip (k := 11) _ rs1).trans <|
    (extract_skip (k := 5) _ op3).trans <| (extract_skip (k := 0) op rd).trans (extract_full op)
@[simp] theorem rdField_format3 : rdField (format3 op rd op3 rs1 low) = rd :=
  (extract_skip (k := 11) _ low).trans <| (extract_skip (k := 6) _ rs1).trans <|
    (extract_skip (k := 0) _ op3).trans (extract_low op rd)
@[simp] theorem op3Field_format3 : op3Field (format3 op rd op3 rs1 low) = op3 :=
  (extract_skip (k := 5) _ low).trans <| (extract_skip (k := 0) _ rs1).trans (extract_low _ op3)
@[simp] theorem rs1Field_format3 : rs1Field (format3 op rd op3 rs1 low) = rs1 :=
  (extract_skip (k := 0) _ low).trans (extract_low _ rs1)
@[simp] theorem lowField_format3 : lowField (format3 op rd op3 rs1 low) = low := extract_low _ low
@[simp] theorem opField_format2 : opField (format2 rd op2 imm22) = 0 :=
  (extract_skip (k := 8) _ imm22).trans <| (extract_skip (k := 5) _ op2).trans <|
    (extract_skip (k := 0) 0b00#2 rd).trans (extract_full _)
@[simp] theorem rdField_format2 : rdField (format2 rd op2 imm22) = rd :=
  (extract_skip (k := 3) _ imm22).trans <| (extract_skip (k := 0) _ op2).trans (extract_low _ rd)
@[simp] theorem op2Field_format2 : op2Field (format2 rd op2 imm22) = op2 :=
  (extract_skip (k := 0) _ imm22).trans (extract_low _ op2)
@[simp] theorem imm22Field_format2 : imm22Field (format2 rd op2 imm22) = imm22 := extract_low _ imm22
@[simp] theorem opField_format1 (d : BitVec 30) : opField (format1 d) = 1 :=
  (extract_skip (k := 0) 0b01#2 d).trans (extract_full _)
@[simp] theorem disp30Field_format1 (d : BitVec 30) : disp30Field (format1 d) = d := extract_low _ d

@[simp] theorem condField_annulCond (a : Bool) (cond : BitVec 4) : condField (annulCond a cond) = cond := extract_low _ cond
@[simp] theorem annulBit_annulCond (a : Bool) (cond : BitVec 4) : annulBit (annulCond a cond) = a :=
  (bit_skip (k := 0) (BitVec.ofBool a) cond).trans (by cases a <;> rfl)
@[simp] theorem iBit_lowAsi (i : Bool) (asi : Asi) : iBit (lowAsi i asi rs2) = i :=
  (bit_skip (k := 8) _ rs2).trans <| (bit_skip (k := 0) (BitVec.ofBool i) asi).trans (by cases i <;> rfl)
@[simp] theorem asiField_lowAsi (i : Bool) (asi : Asi) : asiField (lowAsi i asi rs2) = asi :=
  (extract_skip (k := 0) _ rs2).trans (extract_low _ asi)
@[simp] theorem rs2Field_lowAsi (i : Bool) (asi : Asi) : rs2Field (lowAsi i asi rs2) = rs2 := extract_low _ rs2
@[simp] theorem opfField_lowOpf (opf : BitVec 9) : opfField (lowOpf opf rs2) = opf :=
  (extract_skip (k := 0) opf rs2).trans (extract_full opf)
@[simp] theorem rs2Field_lowOpf (opf : BitVec 9) : rs2Field (lowOpf opf rs2) = rs2 := extract_low opf rs2

@[simp] theorem regOrImm_lowRegOrImm (o : RegOrImm) : regOrImm (lowRegOrImm o) = o := by
  cases o with
  | reg rs2 => simp [regOrImm, lowRegOrImm]
  | imm s =>
    have hi : iBit (0b1#1 ++ s) = true := bit_skip (k := 0) 0b1#1 s
    have hs : simm13Field (0b1#1 ++ s) = s := extract_low _ s
    simp only [regOrImm, lowRegOrImm, hi, if_true]
    exact congrArg RegOrImm.imm hs
@[simp] theorem shiftOperand_lowShift (o : ShiftOperand) : shiftOperand (lowShift o) = o := by
  cases o <;> simp [shiftOperand, lowShift]
@[simp] theorem trapOperand_lowTrap (o : TrapOperand) : trapOperand (lowTrap o) = o := by
  cases o with
  | reg rs2 => simp [trapOperand, lowTrap]
  | imm s =>
    have hi : iBit (0b1000000#7 ++ s) = true := bit_skip (k := 6) 0b1000000#7 s
    have hs : imm7Field (0b1000000#7 ++ s) = s := extract_low _ s
    simp only [trapOperand, lowTrap, hi, if_true]
    exact congrArg TrapOperand.imm hs

/-- A Format 2 word goes through the table of R150. -/
theorem decodeWord_format2 : decodeWord (format2 rd op2 imm22) = decodeFormat2 rd op2 imm22 := by
  simp [decodeWord]
/-- A Format 3 word with op = 10 goes through the table of R152. -/
theorem decodeWord_arith : decodeWord (format3 2#2 rd op3 rs1 low) = decodeArith op3 rd rs1 low := by
  simp [decodeWord]
/-- A Format 3 word with op = 11 goes through the table of R153. -/
theorem decodeWord_mem : decodeWord (format3 3#2 rd op3 rs1 low) = decodeMem op3 rd rs1 low := by
  simp [decodeWord]
/-- Splitting a word into its four bytes and joining them gives it back (R104, R106). -/
theorem wordOfBytes_byteOfWord (w : Word) :
    wordOfBytes (byteOfWord w 0) (byteOfWord w 1) (byteOfWord w 2) (byteOfWord w 3) = w := by
  apply BitVec.eq_of_getLsbD_eq
  intro i hi
  simp only [wordOfBytes, byteOfWord, BitVec.getLsbD_append, BitVec.getLsbD_extractLsb']
  by_cases h0 : i < 8
  · simp [h0]
  by_cases h1 : i - 8 < 8
  · rw [if_neg h0, if_pos h1]; simp only [h1, decide_true, Bool.true_and]; congr 1; omega
  by_cases h2 : i - 8 - 8 < 8
  · rw [if_neg h0, if_neg h1, if_pos h2]; simp only [h2, decide_true, Bool.true_and]; congr 1; omega
  have h3 : i - 8 - 8 - 8 < 8 := by omega
  rw [if_neg h0, if_neg h1, if_neg h2]; simp only [h3, decide_true, Bool.true_and]; congr 1; omega

end Sys2Proof.Laws
end

