-- ==== Sys2Proof/Laws/Memory.lean ====
section
/-! SUPPORT. The laws of the memory list and of the flush list: read after write, and the canonical forms every operation keeps. -/

namespace Sys2Proof.Laws

open Sys2Proof.Machine

/-- Every address listed in `m` lies above `a`. -/
def Above (a : Nat) (m : List Host.Cell) : Prop := ∀ c ∈ m, a < c.1

/-- The canonical form, one cell at a time. -/
theorem memWf_cons (a : Nat) (v : Byte) (m : List Host.Cell) :
    memWf ((a, v) :: m) = true ↔ a < 0x100000000 ∧ v ≠ 0 ∧ Above a m ∧ memWf m = true := by
  induction m generalizing a v with
  | nil => simp [memWf, Above]
  | cons c m ih =>
    obtain ⟨b, w⟩ := c
    have hstep : memWf ((a, v) :: (b, w) :: m) = (decide (a < b) && v != 0 && memWf ((b, w) :: m)) := rfl
    rw [hstep, Bool.and_eq_true, Bool.and_eq_true, ih b w]
    simp only [decide_eq_true_eq, bne_iff_ne, ne_eq, Above, List.forall_mem_cons]
    constructor
    · rintro ⟨⟨hab, hv⟩, hb, hw, hall, hm⟩
      exact ⟨by omega, hv, ⟨hab, fun c hc => by have := hall c hc; omega⟩, hb, hw, hall, hm⟩
    · rintro ⟨_, hv, ⟨hab, _⟩, hb, hw, hall, hm⟩
      exact ⟨⟨hab, hv⟩, hb, hw, hall, hm⟩

/-- An address below every listed one is unlisted. -/
theorem memRead_of_above {a : Nat} {m : List Host.Cell} (h : Above a m) : memRead m a = 0 := by
  induction m with
  | nil => rfl
  | cons c m ih =>
    obtain ⟨b, w⟩ := c
    have hb : a < b := h (b, w) (by simp)
    rw [memRead, if_neg (by omega), ih (fun c hc => h c (by simp [hc]))]

theorem above_memErase {b a : Nat} {m : List Host.Cell} (h : Above b m) : Above b (memErase m a) := by
  induction m with
  | nil => exact h
  | cons c m ih =>
    obtain ⟨x, w⟩ := c
    have hm : Above b m := fun c hc => h c (by simp [hc])
    unfold memErase
    split
    · exact hm
    · intro c hc
      rcases List.mem_cons.1 hc with rfl | hc
      · exact h _ (by simp)
      · exact ih hm c hc

theorem above_memInsert {b a : Nat} {v : Byte} {m : List Host.Cell} (h : Above b m) (ha : b < a) :
    Above b (memInsert m a v) := by
  induction m with
  | nil => simpa [memInsert, Above] using ha
  | cons c m ih =>
    obtain ⟨x, w⟩ := c
    have hm : Above b m := fun c hc => h c (by simp [hc])
    unfold memInsert
    split
    · intro c hc
      rcases List.mem_cons.1 hc with rfl | hc
      · exact ha
      · exact h c hc
    · split
      · intro c hc
        rcases List.mem_cons.1 hc with rfl | hc
        · exact ha
        · exact hm c hc
      · intro c hc
        rcases List.mem_cons.1 hc with rfl | hc
        · exact h _ (by simp)
        · exact ih hm c hc

theorem memWf_memErase {m : List Host.Cell} (a : Nat) (h : memWf m = true) : memWf (memErase m a) = true := by
  induction m with
  | nil => rfl
  | cons c m ih =>
    obtain ⟨b, w⟩ := c
    obtain ⟨hb, hw, hall, hm⟩ := (memWf_cons b w m).1 h
    unfold memErase
    split
    · exact hm
    · exact (memWf_cons _ _ _).2 ⟨hb, hw, above_memErase hall, ih hm⟩

theorem memWf_memInsert {m : List Host.Cell} {a : Nat} {v : Byte} (h : memWf m = true) (ha : a < 0x100000000) (hv : v ≠ 0) :
    memWf (memInsert m a v) = true := by
  induction m with
  | nil => exact (memWf_cons _ _ _).2 ⟨ha, hv, by simp [Above], rfl⟩
  | cons c m ih =>
    obtain ⟨b, w⟩ := c
    obtain ⟨hb, hw, hall, hm⟩ := (memWf_cons b w m).1 h
    unfold memInsert
    split
    · rename_i hab
      refine (memWf_cons _ _ _).2 ⟨ha, hv, ?_, h⟩
      intro c hc
      rcases List.mem_cons.1 hc with rfl | hc
      · exact hab
      · exact hab.trans (hall c hc)
    · split
      · rename_i hab
        exact (memWf_cons _ _ _).2 ⟨ha, hv, hab ▸ hall, hm⟩
      · rename_i h1 h2
        exact (memWf_cons _ _ _).2 ⟨hb, hw, above_memInsert hall (by omega), ih hm⟩

/-- A write keeps the canonical form. -/
theorem memWf_memWrite {m : List Host.Cell} {a : Nat} (v : Byte) (h : memWf m = true) (ha : a < 0x100000000) :
    memWf (memWrite m a v) = true := by
  unfold memWrite
  split
  · exact memWf_memErase a h
  · exact memWf_memInsert h ha ‹_›

/-- A write of several bytes keeps the canonical form. -/
theorem memWf_memWriteBytes {m : List Host.Cell} (a : Word) (bs : List Byte) (h : memWf m = true) :
    memWf (memWriteBytes m a bs) = true := by
  induction bs generalizing m a with
  | nil => exact h
  | cons b bs ih => exact ih _ (memWf_memWrite b h (by have := a.isLt; omega))

theorem memRead_memErase {m : List Host.Cell} (a b : Nat) (h : memWf m = true) :
    memRead (memErase m a) b = if b = a then 0 else memRead m b := by
  induction m with
  | nil => simp [memErase, memRead]
  | cons c m ih =>
    obtain ⟨x, w⟩ := c
    obtain ⟨_, _, hall, hm⟩ := (memWf_cons x w m).1 h
    unfold memErase
    by_cases hxa : x = a
    · subst hxa
      simp only [if_true]
      by_cases hb : b = x
      · subst hb; rw [if_pos rfl, memRead_of_above hall]
      · rw [if_neg hb, memRead, if_neg (Ne.symm hb)]
    · rw [if_neg hxa, memRead, ih hm, memRead]
      by_cases hxb : x = b
      · subst hxb; simp [hxa]
      · simp [hxb]

theorem memRead_memInsert {m : List Host.Cell} (a b : Nat) (v : Byte) (h : memWf m = true) :
    memRead (memInsert m a v) b = if b = a then v else memRead m b := by
  induction m with
  | nil => simp [memInsert, memRead, eq_comm]
  | cons c m ih =>
    obtain ⟨x, w⟩ := c
    obtain ⟨_, _, hall, hm⟩ := (memWf_cons x w m).1 h
    unfold memInsert
    split
    · simp [memRead, eq_comm]
    · split
      · rename_i hax
        subst hax
        by_cases hb : b = a
        · simp [memRead, hb]
        · simp [memRead, hb, Ne.symm hb]
      · rename_i h1 h2
        rw [memRead, ih hm, memRead]
        by_cases hxb : x = b
        · subst hxb; simp [Ne.symm h2]
        · simp [hxb]

/-- Reading after a write: the byte written, and every other byte as before. -/
theorem memRead_memWrite {m : List Host.Cell} (a b : Nat) (v : Byte) (h : memWf m = true) :
    memRead (memWrite m a v) b = if b = a then v else memRead m b := by
  unfold memWrite
  split
  · rename_i hv; rw [memRead_memErase a b h, hv]
  · exact memRead_memInsert a b v h

/-- A write leaves every other byte, in any list. -/
theorem memRead_memWrite_ne (m : List Host.Cell) {a b : Nat} (v : Byte) (hb : b ≠ a) :
    memRead (memWrite m a v) b = memRead m b := by
  have he : memRead (memErase m a) b = memRead m b := by
    induction m with
    | nil => rfl
    | cons c m ih =>
      obtain ⟨x, w⟩ := c
      unfold memErase
      split
      · next hxa => rw [memRead, if_neg (fun h => hb (h.symm.trans hxa))]
      · rw [memRead, ih, memRead]
  have hi : memRead (memInsert m a v) b = memRead m b := by
    clear he
    induction m with
    | nil => simp [memInsert, memRead, Ne.symm hb]
    | cons c m ih =>
      obtain ⟨x, w⟩ := c
      unfold memInsert
      split
      · rw [memRead, if_neg (Ne.symm hb)]
      · split
        · next hax => rw [memRead, memRead, if_neg (Ne.symm hb), if_neg (fun h => hb (h.symm.trans hax.symm))]
        · rw [memRead, memRead, ih]
  unfold memWrite
  split
  · exact he
  · exact hi

/-- A write of several bytes leaves every byte outside them, in any list. -/
theorem memRead_memWriteBytes_other (m : List Host.Cell) (a b : Word) (bs : List Byte)
    (hb : ∀ k < bs.length, b ≠ a + BitVec.ofNat 32 k) :
    memRead (memWriteBytes m a bs) b.toNat = memRead m b.toNat := by
  induction bs generalizing m a with
  | nil => rfl
  | cons v bs ih =>
    have h0 : b ≠ a := by simpa using hb 0 (by simp)
    rw [memWriteBytes, ih]
    · exact memRead_memWrite_ne m v (fun he => h0 (BitVec.eq_of_toNat_eq he))
    · intro k hk
      have := hb (k + 1) (by simpa using hk)
      rwa [show a + BitVec.ofNat 32 (k + 1) = a + 1 + BitVec.ofNat 32 k by
        rw [Nat.add_comm, BitVec.ofNat_add, ← BitVec.add_assoc]; rfl] at this

/-- The k-th of several bytes written is read back, where they do not wrap onto each other. -/
theorem memRead_memWriteBytes_at {m : List Host.Cell} (a : Word) (bs : List Byte) (h : memWf m = true) (k : Nat)
    (hk : k < bs.length) (hn : bs.length ≤ 0x100000000) :
    memRead (memWriteBytes m a bs) (a + BitVec.ofNat 32 k).toNat = bs[k] := by
  induction bs generalizing m a k with
  | nil => simp at hk
  | cons v bs ih =>
    have hlen : bs.length < 0x100000000 := by simp at hn; omega
    have hshift : ∀ j, a + 1 + BitVec.ofNat 32 j = a + BitVec.ofNat 32 (j + 1) := by
      intro j; rw [Nat.add_comm, BitVec.ofNat_add, ← BitVec.add_assoc]; rfl
    cases k with
    | zero =>
      simp only [BitVec.ofNat_eq_ofNat, BitVec.add_zero, List.getElem_cons_zero, memWriteBytes]
      rw [memRead_memWriteBytes_other, memRead_memWrite _ _ _ h,
        if_pos rfl]
      intro j hj heq
      have heq := heq.trans (hshift j)
      have h2 : BitVec.ofNat 32 (j + 1) = 0#32 := by
        have := congrArg (fun x => x - a) heq
        simpa [BitVec.add_comm a, BitVec.add_sub_cancel] using this.symm
      have h3 := congrArg BitVec.toNat h2
      simp only [BitVec.toNat_ofNat] at h3
      omega
    | succ k =>
      rw [memWriteBytes, ← hshift]
      exact ih (a + 1) (memWf_memWrite v h (by have := a.isLt; omega)) k (by simpa using hk) (by omega)

/-! ### The flush list -/

theorem flushFind_of_above {d : Nat} {l : List (Nat × FlushStatus)} (h : ∀ e ∈ l, d < e.1) : flushFind l d = none := by
  induction l with
  | nil => rfl
  | cons e l ih =>
    obtain ⟨b, f⟩ := e
    have hb : d < b := h (b, f) (by simp)
    rw [flushFind, if_neg (by omega), ih (fun e he => h e (by simp [he]))]

theorem flushSet_mem {l : List (Nat × FlushStatus)} {d : Nat} {f : FlushStatus} {e : Nat × FlushStatus}
    (he : e ∈ flushSet l d f) : e = (d, f) ∨ e ∈ l := by
  induction l with
  | nil => simpa [flushSet] using he
  | cons x l ih =>
    obtain ⟨b, g⟩ := x
    unfold flushSet at he
    split at he
    · simpa using he
    · split at he
      · rcases List.mem_cons.1 he with h | h
        · exact .inl h
        · exact .inr (by simp [h])
      · rcases List.mem_cons.1 he with h | h
        · exact .inr (by simp [h])
        · rcases ih h with h | h
          · exact .inl h
          · exact .inr (by simp [h])

theorem flushWf_flushSet {l : List (Nat × FlushStatus)} {d : Nat} {f : FlushStatus} (h : flushWf l) (hd : d % 8 = 0)
    (hf : ∀ k, f = .counting k → 0 < k ∧ k ≤ Config.flushLatency) : flushWf (flushSet l d f) := by
  induction l with
  | nil => exact ⟨hd, hf, by simp, trivial⟩
  | cons x l ih =>
    obtain ⟨b, g⟩ := x
    obtain ⟨hb, hg, hall, hl⟩ := h
    unfold flushSet
    split
    · rename_i hdb
      refine ⟨hd, hf, ?_, hb, hg, hall, hl⟩
      intro e he
      rcases List.mem_cons.1 he with rfl | he
      · exact hdb
      · exact hdb.trans (hall e he)
    · split
      · rename_i hdb
        exact ⟨hd, hf, hdb ▸ hall, hl⟩
      · refine ⟨hb, hg, ?_, ih hl⟩
        intro e he
        rcases flushSet_mem he with rfl | he
        · simp only; omega
        · exact hall e he

theorem flushErase_mem {l : List (Nat × FlushStatus)} {d : Nat} {e : Nat × FlushStatus} (he : e ∈ flushErase l d) : e ∈ l := by
  induction l with
  | nil => exact he
  | cons x l ih =>
    unfold flushErase at he
    split at he
    · simp [he]
    · rcases List.mem_cons.1 he with h | h
      · simp [h]
      · simp [ih h]

theorem flushWf_flushErase {l : List (Nat × FlushStatus)} (d : Nat) (h : flushWf l) : flushWf (flushErase l d) := by
  induction l with
  | nil => trivial
  | cons x l ih =>
    obtain ⟨hb, hg, hall, hl⟩ := h
    unfold flushErase
    split
    · exact hl
    · exact ⟨hb, hg, fun e he => hall e (flushErase_mem he), ih hl⟩

theorem flushAge_mem {l : List (Nat × FlushStatus)} {e : Nat × FlushStatus} (he : e ∈ flushAge l) : ∃ f, (e.1, f) ∈ l := by
  induction l with
  | nil => simp [flushAge] at he
  | cons x l ih =>
    obtain ⟨b, g⟩ := x
    cases g with
    | dirty =>
      rcases List.mem_cons.1 he with rfl | h
      · exact ⟨.dirty, by simp⟩
      · obtain ⟨f, hf⟩ := ih h; exact ⟨f, by simp [hf]⟩
    | counting k =>
      unfold flushAge at he
      split at he
      · obtain ⟨f, hf⟩ := ih he; exact ⟨f, by simp [hf]⟩
      · rcases List.mem_cons.1 he with rfl | h
        · exact ⟨.counting k, by simp⟩
        · obtain ⟨f, hf⟩ := ih h; exact ⟨f, by simp [hf]⟩

/-- Aging keeps the canonical form. -/
theorem flushWf_flushAge {l : List (Nat × FlushStatus)} (h : flushWf l) : flushWf (flushAge l) := by
  induction l with
  | nil => trivial
  | cons x l ih =>
    obtain ⟨b, g⟩ := x
    obtain ⟨hb, hg, hall, hl⟩ := h
    have hall' : ∀ e ∈ flushAge l, b < e.1 := fun e he => by
      obtain ⟨f, hf⟩ := flushAge_mem he; exact hall (e.1, f) hf
    cases g with
    | dirty => exact ⟨hb, hg, hall', ih hl⟩
    | counting k =>
      unfold flushAge
      split
      · exact ih hl
      · refine ⟨hb, ?_, hall', ih hl⟩
        rintro j hj
        obtain ⟨h0, hk⟩ := hg k rfl
        cases hj
        omega

/-- Looking up after `flushSet`. -/
theorem flushFind_flushSet {l : List (Nat × FlushStatus)} (d e : Nat) (f : FlushStatus) :
    flushFind (flushSet l d f) e = if e = d then some f else flushFind l e := by
  induction l with
  | nil => simp [flushSet, flushFind, eq_comm]
  | cons x l ih =>
    obtain ⟨b, g⟩ := x
    unfold flushSet
    split
    · simp [flushFind, eq_comm]
    · split
      · rename_i hdb
        subst hdb
        by_cases he : e = d
        · simp [flushFind, he]
        · simp [flushFind, he, Ne.symm he]
      · rename_i h1 h2
        rw [flushFind, ih, flushFind]
        by_cases hbe : b = e
        · subst hbe; simp [Ne.symm h2]
        · simp [hbe]

/-- Aging leaves a dirty doubleword dirty. -/
theorem flushFind_flushAge_dirty {l : List (Nat × FlushStatus)} {d : Nat} (h : flushFind l d = some .dirty) :
    flushFind (flushAge l) d = some .dirty := by
  induction l with
  | nil => simp [flushFind] at h
  | cons x l ih =>
    obtain ⟨b, f⟩ := x
    simp only [flushFind] at h
    by_cases hb : b = d
    · rw [if_pos hb] at h
      obtain rfl := Option.some.inj h
      simp [flushAge, flushFind, hb]
    · rw [if_neg hb] at h
      cases f with
      | dirty => simp [flushAge, flushFind, hb, ih h]
      | counting k =>
        unfold flushAge
        split
        · exact ih h
        · simp [flushFind, hb, ih h]

/-- Aging leaves a doubleword off the list off it. -/
theorem flushFind_flushAge_none {l : List (Nat × FlushStatus)} {d : Nat} (h : flushFind l d = none) :
    flushFind (flushAge l) d = none := by
  induction l with
  | nil => rfl
  | cons x l ih =>
    obtain ⟨b, f⟩ := x
    simp only [flushFind] at h
    split at h
    · simp at h
    · rename_i hb
      cases f with
      | dirty => simp [flushAge, flushFind, hb, ih h]
      | counting k =>
        unfold flushAge
        split
        · exact ih h
        · simp [flushFind, hb, ih h]

/-- Marking one doubleword and aging leaves every other as aging alone leaves it. -/
theorem flushFind_flushAge_flushSet_dirty (l : List (Nat × FlushStatus)) {d e : Nat} (h : e ≠ d) :
    flushFind (flushAge (flushSet l d .dirty)) e = flushFind (flushAge l) e := by
  induction l with
  | nil => simp [flushSet, flushAge, flushFind, Ne.symm h]
  | cons x l ih =>
    obtain ⟨b, f⟩ := x
    unfold flushSet
    split
    · simp [flushAge, flushFind, Ne.symm h]
    · split
      · rename_i hd
        subst hd
        cases f with
        | dirty => simp [flushAge, flushFind, Ne.symm h]
        | counting k =>
          simp only [flushAge, flushFind, if_neg (Ne.symm h)]
          split
          · rfl
          · simp [flushFind, Ne.symm h]
      · cases f with
        | dirty => simp [flushAge, flushFind, ih]
        | counting k =>
          simp only [flushAge]
          split
          · exact ih
          · simp [flushFind, ih]

/-- What aging does to one doubleword of a canonical list. -/
theorem flushFind_flushAge {l : List (Nat × FlushStatus)} (d : Nat) (h : flushWf l) : flushFind (flushAge l) d =
    match flushFind l d with
    | none => none
    | some .dirty => some .dirty
    | some (.counting k) => if 1 < k then some (.counting (k - 1)) else none := by
  induction l with
  | nil => rfl
  | cons x l ih =>
    obtain ⟨b, f⟩ := x
    obtain ⟨_, hf, ha, hl⟩ := h
    have ih := ih hl
    cases f with
    | dirty => by_cases hb : b = d <;> simp [flushAge, flushFind, hb, ih]
    | counting k =>
      by_cases hb : b = d
      · subst hb
        by_cases hk : k ≤ 1
        · simp [flushAge, flushFind, hk, flushFind_flushAge_none (flushFind_of_above ha), Nat.not_lt.mpr hk]
        · simp [flushAge, flushFind, hk, Nat.not_le.mp hk]
      · by_cases hk : k ≤ 1 <;> simp [flushAge, flushFind, hk, hb, ih]

end Sys2Proof.Laws
end

