-- ==== Sys2Proof/Laws/State.lean ====
section
/-! SUPPORT. One lemma per field per update of the state: what each named update leaves and what it sets, so that no proof unfolds
a record update. -/

set_option Elab.async false

namespace Sys2Proof.Machine

variable (s : State)

@[simp] theorem State.setRw_pc (w : Nat) (i : Reg) (v : Word) :
    (s.setRw w i v).pc = s.pc := by unfold State.setRw; split <;> [rfl; (split <;> rfl)]
@[simp] theorem State.setRw_npc (w : Nat) (i : Reg) (v : Word) :
    (s.setRw w i v).npc = s.npc := by unfold State.setRw; split <;> [rfl; (split <;> rfl)]
@[simp] theorem State.setRw_psr (w : Nat) (i : Reg) (v : Word) :
    (s.setRw w i v).psr = s.psr := by unfold State.setRw; split <;> [rfl; (split <;> rfl)]
@[simp] theorem State.setRw_wim (w : Nat) (i : Reg) (v : Word) :
    (s.setRw w i v).wim = s.wim := by unfold State.setRw; split <;> [rfl; (split <;> rfl)]
@[simp] theorem State.setRw_tbr (w : Nat) (i : Reg) (v : Word) :
    (s.setRw w i v).tbr = s.tbr := by unfold State.setRw; split <;> [rfl; (split <;> rfl)]
@[simp] theorem State.setRw_y (w : Nat) (i : Reg) (v : Word) :
    (s.setRw w i v).y = s.y := by unfold State.setRw; split <;> [rfl; (split <;> rfl)]
@[simp] theorem State.setRw_f (w : Nat) (i : Reg) (v : Word) :
    (s.setRw w i v).f = s.f := by unfold State.setRw; split <;> [rfl; (split <;> rfl)]
@[simp] theorem State.setRw_fsr (w : Nat) (i : Reg) (v : Word) :
    (s.setRw w i v).fsr = s.fsr := by unfold State.setRw; split <;> [rfl; (split <;> rfl)]
@[simp] theorem State.setRw_errorMode (w : Nat) (i : Reg) (v : Word) :
    (s.setRw w i v).errorMode = s.errorMode := by unfold State.setRw; split <;> [rfl; (split <;> rfl)]
@[simp] theorem State.setRw_haz (w : Nat) (i : Reg) (v : Word) :
    (s.setRw w i v).haz = s.haz := by unfold State.setRw; split <;> [rfl; (split <;> rfl)]
@[simp] theorem State.setRw_flushPending (w : Nat) (i : Reg) (v : Word) :
    (s.setRw w i v).flushPending = s.flushPending := by unfold State.setRw; split <;> [rfl; (split <;> rfl)]
@[simp] theorem State.setRw_mem (w : Nat) (i : Reg) (v : Word) :
    (s.setRw w i v).mem = s.mem := by unfold State.setRw; split <;> [rfl; (split <;> rfl)]
@[simp] theorem State.setRw_irl (w : Nat) (i : Reg) (v : Word) :
    (s.setRw w i v).irl = s.irl := by unfold State.setRw; split <;> [rfl; (split <;> rfl)]
@[simp] theorem State.setRw_memFaults (w : Nat) (i : Reg) (v : Word) :
    (s.setRw w i v).memFaults = s.memFaults := by unfold State.setRw; split <;> [rfl; (split <;> rfl)]
@[simp] theorem State.setRw_freeCount (w : Nat) (i : Reg) (v : Word) :
    (s.setRw w i v).freeCount = s.freeCount := by unfold State.setRw; split <;> [rfl; (split <;> rfl)]

@[simp] theorem State.setR_pc (i : Reg) (v : Word) : (s.setR i v).pc = s.pc := s.setRw_pc _ i v
@[simp] theorem State.setR_npc (i : Reg) (v : Word) : (s.setR i v).npc = s.npc := s.setRw_npc _ i v
@[simp] theorem State.setR_psr (i : Reg) (v : Word) : (s.setR i v).psr = s.psr := s.setRw_psr _ i v
@[simp] theorem State.setR_wim (i : Reg) (v : Word) : (s.setR i v).wim = s.wim := s.setRw_wim _ i v
@[simp] theorem State.setR_tbr (i : Reg) (v : Word) : (s.setR i v).tbr = s.tbr := s.setRw_tbr _ i v
@[simp] theorem State.setR_y (i : Reg) (v : Word) : (s.setR i v).y = s.y := s.setRw_y _ i v
@[simp] theorem State.setR_f (i : Reg) (v : Word) : (s.setR i v).f = s.f := s.setRw_f _ i v
@[simp] theorem State.setR_fsr (i : Reg) (v : Word) : (s.setR i v).fsr = s.fsr := s.setRw_fsr _ i v
@[simp] theorem State.setR_errorMode (i : Reg) (v : Word) : (s.setR i v).errorMode = s.errorMode := s.setRw_errorMode _ i v
@[simp] theorem State.setR_haz (i : Reg) (v : Word) : (s.setR i v).haz = s.haz := s.setRw_haz _ i v
@[simp] theorem State.setR_flushPending (i : Reg) (v : Word) :
    (s.setR i v).flushPending = s.flushPending := s.setRw_flushPending _ i v
@[simp] theorem State.setR_mem (i : Reg) (v : Word) : (s.setR i v).mem = s.mem := s.setRw_mem _ i v
@[simp] theorem State.setR_irl (i : Reg) (v : Word) : (s.setR i v).irl = s.irl := s.setRw_irl _ i v
@[simp] theorem State.setR_memFaults (i : Reg) (v : Word) : (s.setR i v).memFaults = s.memFaults := s.setRw_memFaults _ i v
@[simp] theorem State.setR_freeCount (i : Reg) (v : Word) : (s.setR i v).freeCount = s.freeCount := s.setRw_freeCount _ i v

@[simp] theorem State.setIcc_globals (c : Icc) : (s.setIcc c).globals = s.globals := rfl
@[simp] theorem State.setIcc_windows (c : Icc) : (s.setIcc c).windows = s.windows := rfl
@[simp] theorem State.setIcc_pc (c : Icc) : (s.setIcc c).pc = s.pc := rfl
@[simp] theorem State.setIcc_npc (c : Icc) : (s.setIcc c).npc = s.npc := rfl
@[simp] theorem State.setIcc_wim (c : Icc) : (s.setIcc c).wim = s.wim := rfl
@[simp] theorem State.setIcc_tbr (c : Icc) : (s.setIcc c).tbr = s.tbr := rfl
@[simp] theorem State.setIcc_y (c : Icc) : (s.setIcc c).y = s.y := rfl
@[simp] theorem State.setIcc_f (c : Icc) : (s.setIcc c).f = s.f := rfl
@[simp] theorem State.setIcc_fsr (c : Icc) : (s.setIcc c).fsr = s.fsr := rfl
@[simp] theorem State.setIcc_errorMode (c : Icc) : (s.setIcc c).errorMode = s.errorMode := rfl
@[simp] theorem State.setIcc_haz (c : Icc) : (s.setIcc c).haz = s.haz := rfl
@[simp] theorem State.setIcc_flushPending (c : Icc) : (s.setIcc c).flushPending = s.flushPending := rfl
@[simp] theorem State.setIcc_mem (c : Icc) : (s.setIcc c).mem = s.mem := rfl
@[simp] theorem State.setIcc_irl (c : Icc) : (s.setIcc c).irl = s.irl := rfl
@[simp] theorem State.setIcc_memFaults (c : Icc) : (s.setIcc c).memFaults = s.memFaults := rfl
@[simp] theorem State.setIcc_freeCount (c : Icc) : (s.setIcc c).freeCount = s.freeCount := rfl

@[simp] theorem State.setCwp_globals (w : Nat) : (s.setCwp w).globals = s.globals := rfl
@[simp] theorem State.setCwp_windows (w : Nat) : (s.setCwp w).windows = s.windows := rfl
@[simp] theorem State.setCwp_pc (w : Nat) : (s.setCwp w).pc = s.pc := rfl
@[simp] theorem State.setCwp_npc (w : Nat) : (s.setCwp w).npc = s.npc := rfl
@[simp] theorem State.setCwp_wim (w : Nat) : (s.setCwp w).wim = s.wim := rfl
@[simp] theorem State.setCwp_tbr (w : Nat) : (s.setCwp w).tbr = s.tbr := rfl
@[simp] theorem State.setCwp_y (w : Nat) : (s.setCwp w).y = s.y := rfl
@[simp] theorem State.setCwp_f (w : Nat) : (s.setCwp w).f = s.f := rfl
@[simp] theorem State.setCwp_fsr (w : Nat) : (s.setCwp w).fsr = s.fsr := rfl
@[simp] theorem State.setCwp_errorMode (w : Nat) : (s.setCwp w).errorMode = s.errorMode := rfl
@[simp] theorem State.setCwp_haz (w : Nat) : (s.setCwp w).haz = s.haz := rfl
@[simp] theorem State.setCwp_flushPending (w : Nat) : (s.setCwp w).flushPending = s.flushPending := rfl
@[simp] theorem State.setCwp_mem (w : Nat) : (s.setCwp w).mem = s.mem := rfl
@[simp] theorem State.setCwp_irl (w : Nat) : (s.setCwp w).irl = s.irl := rfl
@[simp] theorem State.setCwp_memFaults (w : Nat) : (s.setCwp w).memFaults = s.memFaults := rfl
@[simp] theorem State.setCwp_freeCount (w : Nat) : (s.setCwp w).freeCount = s.freeCount := rfl

@[simp] theorem State.setY_globals (v : Word) : (s.setY v).globals = s.globals := rfl
@[simp] theorem State.setY_windows (v : Word) : (s.setY v).windows = s.windows := rfl
@[simp] theorem State.setY_pc (v : Word) : (s.setY v).pc = s.pc := rfl
@[simp] theorem State.setY_npc (v : Word) : (s.setY v).npc = s.npc := rfl
@[simp] theorem State.setY_psr (v : Word) : (s.setY v).psr = s.psr := rfl
@[simp] theorem State.setY_wim (v : Word) : (s.setY v).wim = s.wim := rfl
@[simp] theorem State.setY_tbr (v : Word) : (s.setY v).tbr = s.tbr := rfl
@[simp] theorem State.setY_f (v : Word) : (s.setY v).f = s.f := rfl
@[simp] theorem State.setY_fsr (v : Word) : (s.setY v).fsr = s.fsr := rfl
@[simp] theorem State.setY_errorMode (v : Word) : (s.setY v).errorMode = s.errorMode := rfl
@[simp] theorem State.setY_haz (v : Word) : (s.setY v).haz = s.haz := rfl
@[simp] theorem State.setY_flushPending (v : Word) : (s.setY v).flushPending = s.flushPending := rfl
@[simp] theorem State.setY_mem (v : Word) : (s.setY v).mem = s.mem := rfl
@[simp] theorem State.setY_irl (v : Word) : (s.setY v).irl = s.irl := rfl
@[simp] theorem State.setY_memFaults (v : Word) : (s.setY v).memFaults = s.memFaults := rfl
@[simp] theorem State.setY_freeCount (v : Word) : (s.setY v).freeCount = s.freeCount := rfl

@[simp] theorem State.store_globals (a : Word) (bs : List Byte) : (s.store a bs).globals = s.globals := rfl
@[simp] theorem State.store_windows (a : Word) (bs : List Byte) : (s.store a bs).windows = s.windows := rfl
@[simp] theorem State.store_pc (a : Word) (bs : List Byte) : (s.store a bs).pc = s.pc := rfl
@[simp] theorem State.store_npc (a : Word) (bs : List Byte) : (s.store a bs).npc = s.npc := rfl
@[simp] theorem State.store_psr (a : Word) (bs : List Byte) : (s.store a bs).psr = s.psr := rfl
@[simp] theorem State.store_wim (a : Word) (bs : List Byte) : (s.store a bs).wim = s.wim := rfl
@[simp] theorem State.store_tbr (a : Word) (bs : List Byte) : (s.store a bs).tbr = s.tbr := rfl
@[simp] theorem State.store_y (a : Word) (bs : List Byte) : (s.store a bs).y = s.y := rfl
@[simp] theorem State.store_f (a : Word) (bs : List Byte) : (s.store a bs).f = s.f := rfl
@[simp] theorem State.store_fsr (a : Word) (bs : List Byte) : (s.store a bs).fsr = s.fsr := rfl
@[simp] theorem State.store_errorMode (a : Word) (bs : List Byte) : (s.store a bs).errorMode = s.errorMode := rfl
@[simp] theorem State.store_haz (a : Word) (bs : List Byte) : (s.store a bs).haz = s.haz := rfl
@[simp] theorem State.store_flushPending (a : Word) (bs : List Byte) :
    (s.store a bs).flushPending = flushSet s.flushPending (doublewordOf a) .dirty := rfl
@[simp] theorem State.store_mem (a : Word) (bs : List Byte) : (s.store a bs).mem = memWriteBytes s.mem a bs := rfl
@[simp] theorem State.store_irl (a : Word) (bs : List Byte) : (s.store a bs).irl = s.irl := rfl
@[simp] theorem State.store_memFaults (a : Word) (bs : List Byte) : (s.store a bs).memFaults = s.memFaults := rfl
@[simp] theorem State.store_freeCount (a : Word) (bs : List Byte) : (s.store a bs).freeCount = s.freeCount := rfl

@[simp] theorem State.retire_globals : (s.retire).globals = s.globals := rfl
@[simp] theorem State.retire_windows : (s.retire).windows = s.windows := rfl
@[simp] theorem State.retire_pc : (s.retire).pc = s.pc := rfl
@[simp] theorem State.retire_npc : (s.retire).npc = s.npc := rfl
@[simp] theorem State.retire_psr : (s.retire).psr = s.psr := rfl
@[simp] theorem State.retire_wim : (s.retire).wim = s.wim := rfl
@[simp] theorem State.retire_tbr : (s.retire).tbr = s.tbr := rfl
@[simp] theorem State.retire_y : (s.retire).y = s.y := rfl
@[simp] theorem State.retire_f : (s.retire).f = s.f := rfl
@[simp] theorem State.retire_fsr : (s.retire).fsr = s.fsr := rfl
@[simp] theorem State.retire_errorMode : (s.retire).errorMode = s.errorMode := rfl
@[simp] theorem State.retire_haz : (s.retire).haz = s.haz.age := rfl
@[simp] theorem State.retire_flushPending : (s.retire).flushPending = flushAge s.flushPending := rfl
@[simp] theorem State.retire_mem : (s.retire).mem = s.mem := rfl
@[simp] theorem State.retire_irl : (s.retire).irl = s.irl := rfl
@[simp] theorem State.retire_memFaults : (s.retire).memFaults = s.memFaults := rfl
@[simp] theorem State.retire_freeCount : (s.retire).freeCount = s.freeCount := rfl

@[simp] theorem State.advance_globals : (s.advance).globals = s.globals := rfl
@[simp] theorem State.advance_windows : (s.advance).windows = s.windows := rfl
@[simp] theorem State.advance_pc : (s.advance).pc = s.npc := rfl
@[simp] theorem State.advance_npc : (s.advance).npc = s.npc + 4 := rfl
@[simp] theorem State.advance_psr : (s.advance).psr = s.psr := rfl
@[simp] theorem State.advance_wim : (s.advance).wim = s.wim := rfl
@[simp] theorem State.advance_tbr : (s.advance).tbr = s.tbr := rfl
@[simp] theorem State.advance_y : (s.advance).y = s.y := rfl
@[simp] theorem State.advance_f : (s.advance).f = s.f := rfl
@[simp] theorem State.advance_fsr : (s.advance).fsr = s.fsr := rfl
@[simp] theorem State.advance_errorMode : (s.advance).errorMode = s.errorMode := rfl
@[simp] theorem State.advance_haz : (s.advance).haz = s.haz := rfl
@[simp] theorem State.advance_flushPending : (s.advance).flushPending = s.flushPending := rfl
@[simp] theorem State.advance_mem : (s.advance).mem = s.mem := rfl
@[simp] theorem State.advance_irl : (s.advance).irl = s.irl := rfl
@[simp] theorem State.advance_memFaults : (s.advance).memFaults = s.memFaults := rfl
@[simp] theorem State.advance_freeCount : (s.advance).freeCount = s.freeCount := rfl

@[simp] theorem State.transfer_globals (a : Word) : (s.transfer a).globals = s.globals := rfl
@[simp] theorem State.transfer_windows (a : Word) : (s.transfer a).windows = s.windows := rfl
@[simp] theorem State.transfer_pc (a : Word) : (s.transfer a).pc = s.npc := rfl
@[simp] theorem State.transfer_npc (a : Word) : (s.transfer a).npc = a := rfl
@[simp] theorem State.transfer_psr (a : Word) : (s.transfer a).psr = s.psr := rfl
@[simp] theorem State.transfer_wim (a : Word) : (s.transfer a).wim = s.wim := rfl
@[simp] theorem State.transfer_tbr (a : Word) : (s.transfer a).tbr = s.tbr := rfl
@[simp] theorem State.transfer_y (a : Word) : (s.transfer a).y = s.y := rfl
@[simp] theorem State.transfer_f (a : Word) : (s.transfer a).f = s.f := rfl
@[simp] theorem State.transfer_fsr (a : Word) : (s.transfer a).fsr = s.fsr := rfl
@[simp] theorem State.transfer_errorMode (a : Word) : (s.transfer a).errorMode = s.errorMode := rfl
@[simp] theorem State.transfer_haz (a : Word) : (s.transfer a).haz = s.haz := rfl
@[simp] theorem State.transfer_flushPending (a : Word) : (s.transfer a).flushPending = s.flushPending := rfl
@[simp] theorem State.transfer_mem (a : Word) : (s.transfer a).mem = s.mem := rfl
@[simp] theorem State.transfer_irl (a : Word) : (s.transfer a).irl = s.irl := rfl
@[simp] theorem State.transfer_memFaults (a : Word) : (s.transfer a).memFaults = s.memFaults := rfl
@[simp] theorem State.transfer_freeCount (a : Word) : (s.transfer a).freeCount = s.freeCount := rfl

@[simp] theorem State.trapEntry_pc (tt : BitVec 8) : (s.trapEntry tt).pc = trapVector s.trapTba tt := rfl
@[simp] theorem State.trapEntry_npc (tt : BitVec 8) : (s.trapEntry tt).npc = trapVector s.trapTba tt + 4 := rfl
@[simp] theorem State.trapEntry_psr (tt : BitVec 8) :
    (s.trapEntry tt).psr = { s.psr with s := true, ps := s.trapS, et := false, cwp := BitVec.ofNat 5 (windowBelow s.trapCwp) } := rfl
@[simp] theorem State.trapEntry_wim (tt : BitVec 8) :
    (s.trapEntry tt).wim = s.wim := (State.setRw_wim ..).trans (State.setRw_wim ..)
@[simp] theorem State.trapEntry_tbr (tt : BitVec 8) : (s.trapEntry tt).tbr = { s.tbr with tt := tt } := rfl
@[simp] theorem State.trapEntry_y (tt : BitVec 8) : (s.trapEntry tt).y = s.y := (State.setRw_y ..).trans (State.setRw_y ..)
@[simp] theorem State.trapEntry_f (tt : BitVec 8) : (s.trapEntry tt).f = s.f := (State.setRw_f ..).trans (State.setRw_f ..)
@[simp] theorem State.trapEntry_fsr (tt : BitVec 8) :
    (s.trapEntry tt).fsr = s.fsr := (State.setRw_fsr ..).trans (State.setRw_fsr ..)
@[simp] theorem State.trapEntry_errorMode (tt : BitVec 8) :
    (s.trapEntry tt).errorMode = s.errorMode := (State.setRw_errorMode ..).trans (State.setRw_errorMode ..)
@[simp] theorem State.trapEntry_haz (tt : BitVec 8) :
    (s.trapEntry tt).haz = { Hazards.empty with pilQuirks := s.haz.agedQuirks } := rfl
@[simp] theorem State.trapEntry_flushPending (tt : BitVec 8) :
    (s.trapEntry tt).flushPending = s.flushPending := (State.setRw_flushPending ..).trans (State.setRw_flushPending ..)
@[simp] theorem State.trapEntry_mem (tt : BitVec 8) :
    (s.trapEntry tt).mem = s.mem := (State.setRw_mem ..).trans (State.setRw_mem ..)
@[simp] theorem State.trapEntry_irl (tt : BitVec 8) :
    (s.trapEntry tt).irl = s.irl := (State.setRw_irl ..).trans (State.setRw_irl ..)
@[simp] theorem State.trapEntry_memFaults (tt : BitVec 8) :
    (s.trapEntry tt).memFaults = s.memFaults := (State.setRw_memFaults ..).trans (State.setRw_memFaults ..)
@[simp] theorem State.trapEntry_freeCount (tt : BitVec 8) :
    (s.trapEntry tt).freeCount = s.freeCount := (State.setRw_freeCount ..).trans (State.setRw_freeCount ..)

@[simp] theorem State.enterErrorMode_globals : (s.enterErrorMode).globals = s.globals := rfl
@[simp] theorem State.enterErrorMode_windows : (s.enterErrorMode).windows = s.windows := rfl
@[simp] theorem State.enterErrorMode_pc : (s.enterErrorMode).pc = s.pc := rfl
@[simp] theorem State.enterErrorMode_npc : (s.enterErrorMode).npc = s.npc := rfl
@[simp] theorem State.enterErrorMode_psr : (s.enterErrorMode).psr = s.psr := rfl
@[simp] theorem State.enterErrorMode_wim : (s.enterErrorMode).wim = s.wim := rfl
@[simp] theorem State.enterErrorMode_tbr : (s.enterErrorMode).tbr = { s.tbr with tt := Config.freeErrorTt s.freeCount } := rfl
@[simp] theorem State.enterErrorMode_y : (s.enterErrorMode).y = s.y := rfl
@[simp] theorem State.enterErrorMode_f : (s.enterErrorMode).f = s.f := rfl
@[simp] theorem State.enterErrorMode_fsr : (s.enterErrorMode).fsr = s.fsr := rfl
@[simp] theorem State.enterErrorMode_errorMode : (s.enterErrorMode).errorMode = true := rfl
@[simp] theorem State.enterErrorMode_haz : (s.enterErrorMode).haz = s.haz := rfl
@[simp] theorem State.enterErrorMode_flushPending : (s.enterErrorMode).flushPending = s.flushPending := rfl
@[simp] theorem State.enterErrorMode_mem : (s.enterErrorMode).mem = s.mem := rfl
@[simp] theorem State.enterErrorMode_irl : (s.enterErrorMode).irl = s.irl := rfl
@[simp] theorem State.enterErrorMode_memFaults : (s.enterErrorMode).memFaults = s.memFaults := rfl
@[simp] theorem State.enterErrorMode_freeCount : (s.enterErrorMode).freeCount = s.freeCount := rfl

@[simp] theorem State.rettErrorMode_globals (t : Trap) : (s.rettErrorMode t).globals = s.globals := rfl
@[simp] theorem State.rettErrorMode_windows (t : Trap) : (s.rettErrorMode t).windows = s.windows := rfl
@[simp] theorem State.rettErrorMode_pc (t : Trap) : (s.rettErrorMode t).pc = s.pc := rfl
@[simp] theorem State.rettErrorMode_npc (t : Trap) : (s.rettErrorMode t).npc = s.npc := rfl
@[simp] theorem State.rettErrorMode_psr (t : Trap) : (s.rettErrorMode t).psr = s.psr := rfl
@[simp] theorem State.rettErrorMode_wim (t : Trap) : (s.rettErrorMode t).wim = s.wim := rfl
@[simp] theorem State.rettErrorMode_tbr (t : Trap) : (s.rettErrorMode t).tbr = { s.tbr with tt := trapType t } := rfl
@[simp] theorem State.rettErrorMode_y (t : Trap) : (s.rettErrorMode t).y = s.y := rfl
@[simp] theorem State.rettErrorMode_f (t : Trap) : (s.rettErrorMode t).f = s.f := rfl
@[simp] theorem State.rettErrorMode_fsr (t : Trap) : (s.rettErrorMode t).fsr = s.fsr := rfl
@[simp] theorem State.rettErrorMode_errorMode (t : Trap) : (s.rettErrorMode t).errorMode = true := rfl
@[simp] theorem State.rettErrorMode_haz (t : Trap) : (s.rettErrorMode t).haz = s.haz := rfl
@[simp] theorem State.rettErrorMode_flushPending (t : Trap) : (s.rettErrorMode t).flushPending = s.flushPending := rfl
@[simp] theorem State.rettErrorMode_mem (t : Trap) : (s.rettErrorMode t).mem = s.mem := rfl
@[simp] theorem State.rettErrorMode_irl (t : Trap) : (s.rettErrorMode t).irl = s.irl := rfl
@[simp] theorem State.rettErrorMode_memFaults (t : Trap) : (s.rettErrorMode t).memFaults = s.memFaults := rfl
@[simp] theorem State.rettErrorMode_freeCount (t : Trap) : (s.rettErrorMode t).freeCount = s.freeCount := rfl

@[simp] theorem State.returnFromTrap_globals (w : Nat) (a : Word) : (s.returnFromTrap w a).globals = s.globals := rfl
@[simp] theorem State.returnFromTrap_windows (w : Nat) (a : Word) : (s.returnFromTrap w a).windows = s.windows := rfl
@[simp] theorem State.returnFromTrap_pc (w : Nat) (a : Word) : (s.returnFromTrap w a).pc = s.npc := rfl
@[simp] theorem State.returnFromTrap_npc (w : Nat) (a : Word) : (s.returnFromTrap w a).npc = a := rfl
@[simp] theorem State.returnFromTrap_wim (w : Nat) (a : Word) : (s.returnFromTrap w a).wim = s.wim := rfl
@[simp] theorem State.returnFromTrap_tbr (w : Nat) (a : Word) : (s.returnFromTrap w a).tbr = s.tbr := rfl
@[simp] theorem State.returnFromTrap_y (w : Nat) (a : Word) : (s.returnFromTrap w a).y = s.y := rfl
@[simp] theorem State.returnFromTrap_f (w : Nat) (a : Word) : (s.returnFromTrap w a).f = s.f := rfl
@[simp] theorem State.returnFromTrap_fsr (w : Nat) (a : Word) : (s.returnFromTrap w a).fsr = s.fsr := rfl
@[simp] theorem State.returnFromTrap_errorMode (w : Nat) (a : Word) : (s.returnFromTrap w a).errorMode = s.errorMode := rfl
@[simp] theorem State.returnFromTrap_haz (w : Nat) (a : Word) : (s.returnFromTrap w a).haz = s.haz := rfl
@[simp] theorem State.returnFromTrap_flushPending (w : Nat) (a : Word) :
    (s.returnFromTrap w a).flushPending = s.flushPending := rfl
@[simp] theorem State.returnFromTrap_mem (w : Nat) (a : Word) : (s.returnFromTrap w a).mem = s.mem := rfl
@[simp] theorem State.returnFromTrap_irl (w : Nat) (a : Word) : (s.returnFromTrap w a).irl = s.irl := rfl
@[simp] theorem State.returnFromTrap_memFaults (w : Nat) (a : Word) : (s.returnFromTrap w a).memFaults = s.memFaults := rfl
@[simp] theorem State.returnFromTrap_freeCount (w : Nat) (a : Word) : (s.returnFromTrap w a).freeCount = s.freeCount := rfl

@[simp] theorem State.setF_globals (i : Reg) (v : Word) : (s.setF i v).globals = s.globals := rfl
@[simp] theorem State.setF_windows (i : Reg) (v : Word) : (s.setF i v).windows = s.windows := rfl
@[simp] theorem State.setF_pc (i : Reg) (v : Word) : (s.setF i v).pc = s.pc := rfl
@[simp] theorem State.setF_npc (i : Reg) (v : Word) : (s.setF i v).npc = s.npc := rfl
@[simp] theorem State.setF_psr (i : Reg) (v : Word) : (s.setF i v).psr = s.psr := rfl
@[simp] theorem State.setF_wim (i : Reg) (v : Word) : (s.setF i v).wim = s.wim := rfl
@[simp] theorem State.setF_tbr (i : Reg) (v : Word) : (s.setF i v).tbr = s.tbr := rfl
@[simp] theorem State.setF_y (i : Reg) (v : Word) : (s.setF i v).y = s.y := rfl
@[simp] theorem State.setF_fsr (i : Reg) (v : Word) : (s.setF i v).fsr = s.fsr := rfl
@[simp] theorem State.setF_errorMode (i : Reg) (v : Word) : (s.setF i v).errorMode = s.errorMode := rfl
@[simp] theorem State.setF_haz (i : Reg) (v : Word) : (s.setF i v).haz = s.haz := rfl
@[simp] theorem State.setF_flushPending (i : Reg) (v : Word) : (s.setF i v).flushPending = s.flushPending := rfl
@[simp] theorem State.setF_mem (i : Reg) (v : Word) : (s.setF i v).mem = s.mem := rfl
@[simp] theorem State.setF_irl (i : Reg) (v : Word) : (s.setF i v).irl = s.irl := rfl
@[simp] theorem State.setF_memFaults (i : Reg) (v : Word) : (s.setF i v).memFaults = s.memFaults := rfl
@[simp] theorem State.setF_freeCount (i : Reg) (v : Word) : (s.setF i v).freeCount = s.freeCount := rfl

@[simp] theorem State.setFD_globals (i : Reg) (v : DWord) : (s.setFD i v).globals = s.globals := rfl
@[simp] theorem State.setFD_windows (i : Reg) (v : DWord) : (s.setFD i v).windows = s.windows := rfl
@[simp] theorem State.setFD_pc (i : Reg) (v : DWord) : (s.setFD i v).pc = s.pc := rfl
@[simp] theorem State.setFD_npc (i : Reg) (v : DWord) : (s.setFD i v).npc = s.npc := rfl
@[simp] theorem State.setFD_psr (i : Reg) (v : DWord) : (s.setFD i v).psr = s.psr := rfl
@[simp] theorem State.setFD_wim (i : Reg) (v : DWord) : (s.setFD i v).wim = s.wim := rfl
@[simp] theorem State.setFD_tbr (i : Reg) (v : DWord) : (s.setFD i v).tbr = s.tbr := rfl
@[simp] theorem State.setFD_y (i : Reg) (v : DWord) : (s.setFD i v).y = s.y := rfl
@[simp] theorem State.setFD_fsr (i : Reg) (v : DWord) : (s.setFD i v).fsr = s.fsr := rfl
@[simp] theorem State.setFD_errorMode (i : Reg) (v : DWord) : (s.setFD i v).errorMode = s.errorMode := rfl
@[simp] theorem State.setFD_haz (i : Reg) (v : DWord) : (s.setFD i v).haz = s.haz := rfl
@[simp] theorem State.setFD_flushPending (i : Reg) (v : DWord) : (s.setFD i v).flushPending = s.flushPending := rfl
@[simp] theorem State.setFD_mem (i : Reg) (v : DWord) : (s.setFD i v).mem = s.mem := rfl
@[simp] theorem State.setFD_irl (i : Reg) (v : DWord) : (s.setFD i v).irl = s.irl := rfl
@[simp] theorem State.setFD_memFaults (i : Reg) (v : DWord) : (s.setFD i v).memFaults = s.memFaults := rfl
@[simp] theorem State.setFD_freeCount (i : Reg) (v : DWord) : (s.setFD i v).freeCount = s.freeCount := rfl

@[simp] theorem State.setFQ_globals (i : Reg) (v : BitVec 128) : (s.setFQ i v).globals = s.globals := rfl
@[simp] theorem State.setFQ_windows (i : Reg) (v : BitVec 128) : (s.setFQ i v).windows = s.windows := rfl
@[simp] theorem State.setFQ_pc (i : Reg) (v : BitVec 128) : (s.setFQ i v).pc = s.pc := rfl
@[simp] theorem State.setFQ_npc (i : Reg) (v : BitVec 128) : (s.setFQ i v).npc = s.npc := rfl
@[simp] theorem State.setFQ_psr (i : Reg) (v : BitVec 128) : (s.setFQ i v).psr = s.psr := rfl
@[simp] theorem State.setFQ_wim (i : Reg) (v : BitVec 128) : (s.setFQ i v).wim = s.wim := rfl
@[simp] theorem State.setFQ_tbr (i : Reg) (v : BitVec 128) : (s.setFQ i v).tbr = s.tbr := rfl
@[simp] theorem State.setFQ_y (i : Reg) (v : BitVec 128) : (s.setFQ i v).y = s.y := rfl
@[simp] theorem State.setFQ_fsr (i : Reg) (v : BitVec 128) : (s.setFQ i v).fsr = s.fsr := rfl
@[simp] theorem State.setFQ_errorMode (i : Reg) (v : BitVec 128) : (s.setFQ i v).errorMode = s.errorMode := rfl
@[simp] theorem State.setFQ_haz (i : Reg) (v : BitVec 128) : (s.setFQ i v).haz = s.haz := rfl
@[simp] theorem State.setFQ_flushPending (i : Reg) (v : BitVec 128) : (s.setFQ i v).flushPending = s.flushPending := rfl
@[simp] theorem State.setFQ_mem (i : Reg) (v : BitVec 128) : (s.setFQ i v).mem = s.mem := rfl
@[simp] theorem State.setFQ_irl (i : Reg) (v : BitVec 128) : (s.setFQ i v).irl = s.irl := rfl
@[simp] theorem State.setFQ_memFaults (i : Reg) (v : BitVec 128) : (s.setFQ i v).memFaults = s.memFaults := rfl
@[simp] theorem State.setFQ_freeCount (i : Reg) (v : BitVec 128) : (s.setFQ i v).freeCount = s.freeCount := rfl

@[simp] theorem State.setFp_globals (fmt : FpFormat) (i : Reg) (v : Nat) :
    (s.setFp fmt i v).globals = s.globals := by cases fmt <;> rfl
@[simp] theorem State.setFp_windows (fmt : FpFormat) (i : Reg) (v : Nat) :
    (s.setFp fmt i v).windows = s.windows := by cases fmt <;> rfl
@[simp] theorem State.setFp_pc (fmt : FpFormat) (i : Reg) (v : Nat) : (s.setFp fmt i v).pc = s.pc := by cases fmt <;> rfl
@[simp] theorem State.setFp_npc (fmt : FpFormat) (i : Reg) (v : Nat) : (s.setFp fmt i v).npc = s.npc := by cases fmt <;> rfl
@[simp] theorem State.setFp_psr (fmt : FpFormat) (i : Reg) (v : Nat) : (s.setFp fmt i v).psr = s.psr := by cases fmt <;> rfl
@[simp] theorem State.setFp_wim (fmt : FpFormat) (i : Reg) (v : Nat) : (s.setFp fmt i v).wim = s.wim := by cases fmt <;> rfl
@[simp] theorem State.setFp_tbr (fmt : FpFormat) (i : Reg) (v : Nat) : (s.setFp fmt i v).tbr = s.tbr := by cases fmt <;> rfl
@[simp] theorem State.setFp_y (fmt : FpFormat) (i : Reg) (v : Nat) : (s.setFp fmt i v).y = s.y := by cases fmt <;> rfl
@[simp] theorem State.setFp_fsr (fmt : FpFormat) (i : Reg) (v : Nat) : (s.setFp fmt i v).fsr = s.fsr := by cases fmt <;> rfl
@[simp] theorem State.setFp_errorMode (fmt : FpFormat) (i : Reg) (v : Nat) :
    (s.setFp fmt i v).errorMode = s.errorMode := by cases fmt <;> rfl
@[simp] theorem State.setFp_haz (fmt : FpFormat) (i : Reg) (v : Nat) : (s.setFp fmt i v).haz = s.haz := by cases fmt <;> rfl
@[simp] theorem State.setFp_flushPending (fmt : FpFormat) (i : Reg) (v : Nat) :
    (s.setFp fmt i v).flushPending = s.flushPending := by cases fmt <;> rfl
@[simp] theorem State.setFp_mem (fmt : FpFormat) (i : Reg) (v : Nat) : (s.setFp fmt i v).mem = s.mem := by cases fmt <;> rfl
@[simp] theorem State.setFp_irl (fmt : FpFormat) (i : Reg) (v : Nat) : (s.setFp fmt i v).irl = s.irl := by cases fmt <;> rfl
@[simp] theorem State.setFp_memFaults (fmt : FpFormat) (i : Reg) (v : Nat) :
    (s.setFp fmt i v).memFaults = s.memFaults := by cases fmt <;> rfl
@[simp] theorem State.setFp_freeCount (fmt : FpFormat) (i : Reg) (v : Nat) :
    (s.setFp fmt i v).freeCount = s.freeCount := by cases fmt <;> rfl

@[simp] theorem State.loadFsr_globals (w : Word) : (s.loadFsr w).globals = s.globals := rfl
@[simp] theorem State.loadFsr_windows (w : Word) : (s.loadFsr w).windows = s.windows := rfl
@[simp] theorem State.loadFsr_pc (w : Word) : (s.loadFsr w).pc = s.pc := rfl
@[simp] theorem State.loadFsr_npc (w : Word) : (s.loadFsr w).npc = s.npc := rfl
@[simp] theorem State.loadFsr_psr (w : Word) : (s.loadFsr w).psr = s.psr := rfl
@[simp] theorem State.loadFsr_wim (w : Word) : (s.loadFsr w).wim = s.wim := rfl
@[simp] theorem State.loadFsr_tbr (w : Word) : (s.loadFsr w).tbr = s.tbr := rfl
@[simp] theorem State.loadFsr_y (w : Word) : (s.loadFsr w).y = s.y := rfl
@[simp] theorem State.loadFsr_f (w : Word) : (s.loadFsr w).f = s.f := rfl
@[simp] theorem State.loadFsr_errorMode (w : Word) : (s.loadFsr w).errorMode = s.errorMode := rfl
@[simp] theorem State.loadFsr_haz (w : Word) : (s.loadFsr w).haz = s.haz := rfl
@[simp] theorem State.loadFsr_flushPending (w : Word) : (s.loadFsr w).flushPending = s.flushPending := rfl
@[simp] theorem State.loadFsr_mem (w : Word) : (s.loadFsr w).mem = s.mem := rfl
@[simp] theorem State.loadFsr_irl (w : Word) : (s.loadFsr w).irl = s.irl := rfl
@[simp] theorem State.loadFsr_memFaults (w : Word) : (s.loadFsr w).memFaults = s.memFaults := rfl
@[simp] theorem State.loadFsr_freeCount (w : Word) : (s.loadFsr w).freeCount = s.freeCount := rfl

@[simp] theorem State.openLdfsr_globals : (s.openLdfsr).globals = s.globals := rfl
@[simp] theorem State.openLdfsr_windows : (s.openLdfsr).windows = s.windows := rfl
@[simp] theorem State.openLdfsr_pc : (s.openLdfsr).pc = s.pc := rfl
@[simp] theorem State.openLdfsr_npc : (s.openLdfsr).npc = s.npc := rfl
@[simp] theorem State.openLdfsr_psr : (s.openLdfsr).psr = s.psr := rfl
@[simp] theorem State.openLdfsr_wim : (s.openLdfsr).wim = s.wim := rfl
@[simp] theorem State.openLdfsr_tbr : (s.openLdfsr).tbr = s.tbr := rfl
@[simp] theorem State.openLdfsr_y : (s.openLdfsr).y = s.y := rfl
@[simp] theorem State.openLdfsr_f : (s.openLdfsr).f = s.f := rfl
@[simp] theorem State.openLdfsr_fsr : (s.openLdfsr).fsr = s.fsr := rfl
@[simp] theorem State.openLdfsr_errorMode : (s.openLdfsr).errorMode = s.errorMode := rfl
@[simp] theorem State.openLdfsr_flushPending : (s.openLdfsr).flushPending = s.flushPending := rfl
@[simp] theorem State.openLdfsr_mem : (s.openLdfsr).mem = s.mem := rfl
@[simp] theorem State.openLdfsr_irl : (s.openLdfsr).irl = s.irl := rfl
@[simp] theorem State.openLdfsr_memFaults : (s.openLdfsr).memFaults = s.memFaults := rfl
@[simp] theorem State.openLdfsr_freeCount : (s.openLdfsr).freeCount = s.freeCount := rfl

@[simp] theorem State.setFcc_globals (v : BitVec 2) : (s.setFcc v).globals = s.globals := rfl
@[simp] theorem State.setFcc_windows (v : BitVec 2) : (s.setFcc v).windows = s.windows := rfl
@[simp] theorem State.setFcc_pc (v : BitVec 2) : (s.setFcc v).pc = s.pc := rfl
@[simp] theorem State.setFcc_npc (v : BitVec 2) : (s.setFcc v).npc = s.npc := rfl
@[simp] theorem State.setFcc_psr (v : BitVec 2) : (s.setFcc v).psr = s.psr := rfl
@[simp] theorem State.setFcc_wim (v : BitVec 2) : (s.setFcc v).wim = s.wim := rfl
@[simp] theorem State.setFcc_tbr (v : BitVec 2) : (s.setFcc v).tbr = s.tbr := rfl
@[simp] theorem State.setFcc_y (v : BitVec 2) : (s.setFcc v).y = s.y := rfl
@[simp] theorem State.setFcc_f (v : BitVec 2) : (s.setFcc v).f = s.f := rfl
@[simp] theorem State.setFcc_fsr (v : BitVec 2) : (s.setFcc v).fsr = { s.fsr with fcc := v } := rfl
@[simp] theorem State.setFcc_errorMode (v : BitVec 2) : (s.setFcc v).errorMode = s.errorMode := rfl
@[simp] theorem State.setFcc_haz (v : BitVec 2) : (s.setFcc v).haz = s.haz := rfl
@[simp] theorem State.setFcc_flushPending (v : BitVec 2) : (s.setFcc v).flushPending = s.flushPending := rfl
@[simp] theorem State.setFcc_mem (v : BitVec 2) : (s.setFcc v).mem = s.mem := rfl
@[simp] theorem State.setFcc_irl (v : BitVec 2) : (s.setFcc v).irl = s.irl := rfl
@[simp] theorem State.setFcc_memFaults (v : BitVec 2) : (s.setFcc v).memFaults = s.memFaults := rfl
@[simp] theorem State.setFcc_freeCount (v : BitVec 2) : (s.setFcc v).freeCount = s.freeCount := rfl

@[simp] theorem State.markFpop2_globals : (s.markFpop2).globals = s.globals := rfl
@[simp] theorem State.markFpop2_windows : (s.markFpop2).windows = s.windows := rfl
@[simp] theorem State.markFpop2_pc : (s.markFpop2).pc = s.pc := rfl
@[simp] theorem State.markFpop2_npc : (s.markFpop2).npc = s.npc := rfl
@[simp] theorem State.markFpop2_psr : (s.markFpop2).psr = s.psr := rfl
@[simp] theorem State.markFpop2_wim : (s.markFpop2).wim = s.wim := rfl
@[simp] theorem State.markFpop2_tbr : (s.markFpop2).tbr = s.tbr := rfl
@[simp] theorem State.markFpop2_y : (s.markFpop2).y = s.y := rfl
@[simp] theorem State.markFpop2_f : (s.markFpop2).f = s.f := rfl
@[simp] theorem State.markFpop2_fsr : (s.markFpop2).fsr = s.fsr := rfl
@[simp] theorem State.markFpop2_errorMode : (s.markFpop2).errorMode = s.errorMode := rfl
@[simp] theorem State.markFpop2_flushPending : (s.markFpop2).flushPending = s.flushPending := rfl
@[simp] theorem State.markFpop2_mem : (s.markFpop2).mem = s.mem := rfl
@[simp] theorem State.markFpop2_irl : (s.markFpop2).irl = s.irl := rfl
@[simp] theorem State.markFpop2_memFaults : (s.markFpop2).memFaults = s.memFaults := rfl
@[simp] theorem State.markFpop2_freeCount : (s.markFpop2).freeCount = s.freeCount := rfl

@[simp] theorem State.afterStfsr_globals : (s.afterStfsr).globals = s.globals := rfl
@[simp] theorem State.afterStfsr_windows : (s.afterStfsr).windows = s.windows := rfl
@[simp] theorem State.afterStfsr_pc : (s.afterStfsr).pc = s.pc := rfl
@[simp] theorem State.afterStfsr_npc : (s.afterStfsr).npc = s.npc := rfl
@[simp] theorem State.afterStfsr_psr : (s.afterStfsr).psr = s.psr := rfl
@[simp] theorem State.afterStfsr_wim : (s.afterStfsr).wim = s.wim := rfl
@[simp] theorem State.afterStfsr_tbr : (s.afterStfsr).tbr = s.tbr := rfl
@[simp] theorem State.afterStfsr_y : (s.afterStfsr).y = s.y := rfl
@[simp] theorem State.afterStfsr_f : (s.afterStfsr).f = s.f := rfl
@[simp] theorem State.afterStfsr_errorMode : (s.afterStfsr).errorMode = s.errorMode := rfl
@[simp] theorem State.afterStfsr_haz : (s.afterStfsr).haz = s.haz := rfl
@[simp] theorem State.afterStfsr_flushPending : (s.afterStfsr).flushPending = s.flushPending := rfl
@[simp] theorem State.afterStfsr_mem : (s.afterStfsr).mem = s.mem := rfl
@[simp] theorem State.afterStfsr_irl : (s.afterStfsr).irl = s.irl := rfl
@[simp] theorem State.afterStfsr_memFaults : (s.afterStfsr).memFaults = s.memFaults := rfl
@[simp] theorem State.afterStfsr_freeCount : (s.afterStfsr).freeCount = s.freeCount := rfl

@[simp] theorem State.divideY_globals (q : Quotient) : (s.divideY q).globals = s.globals := rfl
@[simp] theorem State.divideY_windows (q : Quotient) : (s.divideY q).windows = s.windows := rfl
@[simp] theorem State.divideY_pc (q : Quotient) : (s.divideY q).pc = s.pc := rfl
@[simp] theorem State.divideY_npc (q : Quotient) : (s.divideY q).npc = s.npc := rfl
@[simp] theorem State.divideY_psr (q : Quotient) : (s.divideY q).psr = s.psr := rfl
@[simp] theorem State.divideY_wim (q : Quotient) : (s.divideY q).wim = s.wim := rfl
@[simp] theorem State.divideY_tbr (q : Quotient) : (s.divideY q).tbr = s.tbr := rfl
@[simp] theorem State.divideY_f (q : Quotient) : (s.divideY q).f = s.f := rfl
@[simp] theorem State.divideY_fsr (q : Quotient) : (s.divideY q).fsr = s.fsr := rfl
@[simp] theorem State.divideY_errorMode (q : Quotient) : (s.divideY q).errorMode = s.errorMode := rfl
@[simp] theorem State.divideY_haz (q : Quotient) : (s.divideY q).haz = s.haz := rfl
@[simp] theorem State.divideY_flushPending (q : Quotient) : (s.divideY q).flushPending = s.flushPending := rfl
@[simp] theorem State.divideY_mem (q : Quotient) : (s.divideY q).mem = s.mem := rfl
@[simp] theorem State.divideY_irl (q : Quotient) : (s.divideY q).irl = s.irl := rfl
@[simp] theorem State.divideY_memFaults (q : Quotient) : (s.divideY q).memFaults = s.memFaults := rfl
@[simp] theorem State.divideY_freeCount (q : Quotient) : (s.divideY q).freeCount = s.freeCount := rfl

@[simp] theorem State.branchTo_globals (k u a : Bool) (x : Word) :
    (s.branchTo k u a x).globals = s.globals := by cases k <;> cases u <;> cases a <;> rfl
@[simp] theorem State.branchTo_windows (k u a : Bool) (x : Word) :
    (s.branchTo k u a x).windows = s.windows := by cases k <;> cases u <;> cases a <;> rfl
@[simp] theorem State.branchTo_psr (k u a : Bool) (x : Word) :
    (s.branchTo k u a x).psr = s.psr := by cases k <;> cases u <;> cases a <;> rfl
@[simp] theorem State.branchTo_wim (k u a : Bool) (x : Word) :
    (s.branchTo k u a x).wim = s.wim := by cases k <;> cases u <;> cases a <;> rfl
@[simp] theorem State.branchTo_tbr (k u a : Bool) (x : Word) :
    (s.branchTo k u a x).tbr = s.tbr := by cases k <;> cases u <;> cases a <;> rfl
@[simp] theorem State.branchTo_y (k u a : Bool) (x : Word) :
    (s.branchTo k u a x).y = s.y := by cases k <;> cases u <;> cases a <;> rfl
@[simp] theorem State.branchTo_f (k u a : Bool) (x : Word) :
    (s.branchTo k u a x).f = s.f := by cases k <;> cases u <;> cases a <;> rfl
@[simp] theorem State.branchTo_fsr (k u a : Bool) (x : Word) :
    (s.branchTo k u a x).fsr = s.fsr := by cases k <;> cases u <;> cases a <;> rfl
@[simp] theorem State.branchTo_errorMode (k u a : Bool) (x : Word) :
    (s.branchTo k u a x).errorMode = s.errorMode := by cases k <;> cases u <;> cases a <;> rfl
@[simp] theorem State.branchTo_haz (k u a : Bool) (x : Word) :
    (s.branchTo k u a x).haz = s.haz := by cases k <;> cases u <;> cases a <;> rfl
@[simp] theorem State.branchTo_flushPending (k u a : Bool) (x : Word) :
    (s.branchTo k u a x).flushPending = s.flushPending := by cases k <;> cases u <;> cases a <;> rfl
@[simp] theorem State.branchTo_mem (k u a : Bool) (x : Word) :
    (s.branchTo k u a x).mem = s.mem := by cases k <;> cases u <;> cases a <;> rfl
@[simp] theorem State.branchTo_irl (k u a : Bool) (x : Word) :
    (s.branchTo k u a x).irl = s.irl := by cases k <;> cases u <;> cases a <;> rfl
@[simp] theorem State.branchTo_memFaults (k u a : Bool) (x : Word) :
    (s.branchTo k u a x).memFaults = s.memFaults := by cases k <;> cases u <;> cases a <;> rfl
@[simp] theorem State.branchTo_freeCount (k u a : Bool) (x : Word) :
    (s.branchTo k u a x).freeCount = s.freeCount := by cases k <;> cases u <;> cases a <;> rfl

@[simp] theorem State.markBranch_globals (b : Bool) : (s.markBranch b).globals = s.globals := rfl
@[simp] theorem State.markBranch_windows (b : Bool) : (s.markBranch b).windows = s.windows := rfl
@[simp] theorem State.markBranch_pc (b : Bool) : (s.markBranch b).pc = s.pc := rfl
@[simp] theorem State.markBranch_npc (b : Bool) : (s.markBranch b).npc = s.npc := rfl
@[simp] theorem State.markBranch_psr (b : Bool) : (s.markBranch b).psr = s.psr := rfl
@[simp] theorem State.markBranch_wim (b : Bool) : (s.markBranch b).wim = s.wim := rfl
@[simp] theorem State.markBranch_tbr (b : Bool) : (s.markBranch b).tbr = s.tbr := rfl
@[simp] theorem State.markBranch_y (b : Bool) : (s.markBranch b).y = s.y := rfl
@[simp] theorem State.markBranch_f (b : Bool) : (s.markBranch b).f = s.f := rfl
@[simp] theorem State.markBranch_fsr (b : Bool) : (s.markBranch b).fsr = s.fsr := rfl
@[simp] theorem State.markBranch_errorMode (b : Bool) : (s.markBranch b).errorMode = s.errorMode := rfl
@[simp] theorem State.markBranch_flushPending (b : Bool) : (s.markBranch b).flushPending = s.flushPending := rfl
@[simp] theorem State.markBranch_mem (b : Bool) : (s.markBranch b).mem = s.mem := rfl
@[simp] theorem State.markBranch_irl (b : Bool) : (s.markBranch b).irl = s.irl := rfl
@[simp] theorem State.markBranch_memFaults (b : Bool) : (s.markBranch b).memFaults = s.memFaults := rfl
@[simp] theorem State.markBranch_freeCount (b : Bool) : (s.markBranch b).freeCount = s.freeCount := rfl

@[simp] theorem State.branchCouple_globals : (s.branchCouple).globals = s.globals := rfl
@[simp] theorem State.branchCouple_windows : (s.branchCouple).windows = s.windows := rfl
@[simp] theorem State.branchCouple_psr : (s.branchCouple).psr = s.psr := rfl
@[simp] theorem State.branchCouple_wim : (s.branchCouple).wim = s.wim := rfl
@[simp] theorem State.branchCouple_tbr : (s.branchCouple).tbr = s.tbr := rfl
@[simp] theorem State.branchCouple_y : (s.branchCouple).y = s.y := rfl
@[simp] theorem State.branchCouple_f : (s.branchCouple).f = s.f := rfl
@[simp] theorem State.branchCouple_fsr : (s.branchCouple).fsr = s.fsr := rfl
@[simp] theorem State.branchCouple_errorMode : (s.branchCouple).errorMode = s.errorMode := rfl
@[simp] theorem State.branchCouple_haz : (s.branchCouple).haz = s.haz := rfl
@[simp] theorem State.branchCouple_flushPending : (s.branchCouple).flushPending = s.flushPending := rfl
@[simp] theorem State.branchCouple_mem : (s.branchCouple).mem = s.mem := rfl
@[simp] theorem State.branchCouple_irl : (s.branchCouple).irl = s.irl := rfl
@[simp] theorem State.branchCouple_memFaults : (s.branchCouple).memFaults = s.memFaults := rfl
@[simp] theorem State.branchCouple_freeCount : (s.branchCouple).freeCount = s.freeCount := rfl

@[simp] theorem State.markJmpl_globals : (s.markJmpl).globals = s.globals := rfl
@[simp] theorem State.markJmpl_windows : (s.markJmpl).windows = s.windows := rfl
@[simp] theorem State.markJmpl_pc : (s.markJmpl).pc = s.pc := rfl
@[simp] theorem State.markJmpl_npc : (s.markJmpl).npc = s.npc := rfl
@[simp] theorem State.markJmpl_psr : (s.markJmpl).psr = s.psr := rfl
@[simp] theorem State.markJmpl_wim : (s.markJmpl).wim = s.wim := rfl
@[simp] theorem State.markJmpl_tbr : (s.markJmpl).tbr = s.tbr := rfl
@[simp] theorem State.markJmpl_y : (s.markJmpl).y = s.y := rfl
@[simp] theorem State.markJmpl_f : (s.markJmpl).f = s.f := rfl
@[simp] theorem State.markJmpl_fsr : (s.markJmpl).fsr = s.fsr := rfl
@[simp] theorem State.markJmpl_errorMode : (s.markJmpl).errorMode = s.errorMode := rfl
@[simp] theorem State.markJmpl_flushPending : (s.markJmpl).flushPending = s.flushPending := rfl
@[simp] theorem State.markJmpl_mem : (s.markJmpl).mem = s.mem := rfl
@[simp] theorem State.markJmpl_irl : (s.markJmpl).irl = s.irl := rfl
@[simp] theorem State.markJmpl_memFaults : (s.markJmpl).memFaults = s.memFaults := rfl
@[simp] theorem State.markJmpl_freeCount : (s.markJmpl).freeCount = s.freeCount := rfl

@[simp] theorem State.markFetchSpace_globals (b : Bool) : (s.markFetchSpace b).globals = s.globals := rfl
@[simp] theorem State.markFetchSpace_windows (b : Bool) : (s.markFetchSpace b).windows = s.windows := rfl
@[simp] theorem State.markFetchSpace_pc (b : Bool) : (s.markFetchSpace b).pc = s.pc := rfl
@[simp] theorem State.markFetchSpace_npc (b : Bool) : (s.markFetchSpace b).npc = s.npc := rfl
@[simp] theorem State.markFetchSpace_psr (b : Bool) : (s.markFetchSpace b).psr = s.psr := rfl
@[simp] theorem State.markFetchSpace_wim (b : Bool) : (s.markFetchSpace b).wim = s.wim := rfl
@[simp] theorem State.markFetchSpace_tbr (b : Bool) : (s.markFetchSpace b).tbr = s.tbr := rfl
@[simp] theorem State.markFetchSpace_y (b : Bool) : (s.markFetchSpace b).y = s.y := rfl
@[simp] theorem State.markFetchSpace_f (b : Bool) : (s.markFetchSpace b).f = s.f := rfl
@[simp] theorem State.markFetchSpace_fsr (b : Bool) : (s.markFetchSpace b).fsr = s.fsr := rfl
@[simp] theorem State.markFetchSpace_errorMode (b : Bool) : (s.markFetchSpace b).errorMode = s.errorMode := rfl
@[simp] theorem State.markFetchSpace_flushPending (b : Bool) : (s.markFetchSpace b).flushPending = s.flushPending := rfl
@[simp] theorem State.markFetchSpace_mem (b : Bool) : (s.markFetchSpace b).mem = s.mem := rfl
@[simp] theorem State.markFetchSpace_irl (b : Bool) : (s.markFetchSpace b).irl = s.irl := rfl
@[simp] theorem State.markFetchSpace_memFaults (b : Bool) : (s.markFetchSpace b).memFaults = s.memFaults := rfl
@[simp] theorem State.markFetchSpace_freeCount (b : Bool) : (s.markFetchSpace b).freeCount = s.freeCount := rfl

@[simp] theorem State.writeY_globals (v : Word) : (s.writeY v).globals = s.globals := rfl
@[simp] theorem State.writeY_windows (v : Word) : (s.writeY v).windows = s.windows := rfl
@[simp] theorem State.writeY_pc (v : Word) : (s.writeY v).pc = s.npc := rfl
@[simp] theorem State.writeY_npc (v : Word) : (s.writeY v).npc = s.npc + 4 := rfl
@[simp] theorem State.writeY_psr (v : Word) : (s.writeY v).psr = s.psr := rfl
@[simp] theorem State.writeY_wim (v : Word) : (s.writeY v).wim = s.wim := rfl
@[simp] theorem State.writeY_tbr (v : Word) : (s.writeY v).tbr = s.tbr := rfl
@[simp] theorem State.writeY_y (v : Word) : (s.writeY v).y = v := rfl
@[simp] theorem State.writeY_f (v : Word) : (s.writeY v).f = s.f := rfl
@[simp] theorem State.writeY_fsr (v : Word) : (s.writeY v).fsr = s.fsr := rfl
@[simp] theorem State.writeY_errorMode (v : Word) : (s.writeY v).errorMode = s.errorMode := rfl
@[simp] theorem State.writeY_flushPending (v : Word) : (s.writeY v).flushPending = flushAge s.flushPending := rfl
@[simp] theorem State.writeY_mem (v : Word) : (s.writeY v).mem = s.mem := rfl
@[simp] theorem State.writeY_irl (v : Word) : (s.writeY v).irl = s.irl := rfl
@[simp] theorem State.writeY_memFaults (v : Word) : (s.writeY v).memFaults = s.memFaults := rfl
@[simp] theorem State.writeY_freeCount (v : Word) : (s.writeY v).freeCount = s.freeCount := rfl

@[simp] theorem State.writePsr_globals (v : Word) : (s.writePsr v).globals = s.globals := rfl
@[simp] theorem State.writePsr_windows (v : Word) : (s.writePsr v).windows = s.windows := rfl
@[simp] theorem State.writePsr_pc (v : Word) : (s.writePsr v).pc = s.npc := rfl
@[simp] theorem State.writePsr_npc (v : Word) : (s.writePsr v).npc = s.npc + 4 := rfl
@[simp] theorem State.writePsr_psr (v : Word) : (s.writePsr v).psr = psrOfWord v := rfl
@[simp] theorem State.writePsr_wim (v : Word) : (s.writePsr v).wim = s.wim := rfl
@[simp] theorem State.writePsr_tbr (v : Word) : (s.writePsr v).tbr = s.tbr := rfl
@[simp] theorem State.writePsr_y (v : Word) : (s.writePsr v).y = s.y := rfl
@[simp] theorem State.writePsr_f (v : Word) : (s.writePsr v).f = s.f := rfl
@[simp] theorem State.writePsr_fsr (v : Word) : (s.writePsr v).fsr = s.fsr := rfl
@[simp] theorem State.writePsr_errorMode (v : Word) : (s.writePsr v).errorMode = s.errorMode := rfl
@[simp] theorem State.writePsr_flushPending (v : Word) : (s.writePsr v).flushPending = flushAge s.flushPending := rfl
@[simp] theorem State.writePsr_mem (v : Word) : (s.writePsr v).mem = s.mem := rfl
@[simp] theorem State.writePsr_irl (v : Word) : (s.writePsr v).irl = s.irl := rfl
@[simp] theorem State.writePsr_memFaults (v : Word) : (s.writePsr v).memFaults = s.memFaults := rfl
@[simp] theorem State.writePsr_freeCount (v : Word) : (s.writePsr v).freeCount = s.freeCount := rfl

@[simp] theorem State.writeWim_globals (v : Word) : (s.writeWim v).globals = s.globals := rfl
@[simp] theorem State.writeWim_windows (v : Word) : (s.writeWim v).windows = s.windows := rfl
@[simp] theorem State.writeWim_pc (v : Word) : (s.writeWim v).pc = s.npc := rfl
@[simp] theorem State.writeWim_npc (v : Word) : (s.writeWim v).npc = s.npc + 4 := rfl
@[simp] theorem State.writeWim_psr (v : Word) : (s.writeWim v).psr = s.psr := rfl
@[simp] theorem State.writeWim_wim (v : Word) : (s.writeWim v).wim = wimMask &&& v := rfl
@[simp] theorem State.writeWim_tbr (v : Word) : (s.writeWim v).tbr = s.tbr := rfl
@[simp] theorem State.writeWim_y (v : Word) : (s.writeWim v).y = s.y := rfl
@[simp] theorem State.writeWim_f (v : Word) : (s.writeWim v).f = s.f := rfl
@[simp] theorem State.writeWim_fsr (v : Word) : (s.writeWim v).fsr = s.fsr := rfl
@[simp] theorem State.writeWim_errorMode (v : Word) : (s.writeWim v).errorMode = s.errorMode := rfl
@[simp] theorem State.writeWim_flushPending (v : Word) : (s.writeWim v).flushPending = flushAge s.flushPending := rfl
@[simp] theorem State.writeWim_mem (v : Word) : (s.writeWim v).mem = s.mem := rfl
@[simp] theorem State.writeWim_irl (v : Word) : (s.writeWim v).irl = s.irl := rfl
@[simp] theorem State.writeWim_memFaults (v : Word) : (s.writeWim v).memFaults = s.memFaults := rfl
@[simp] theorem State.writeWim_freeCount (v : Word) : (s.writeWim v).freeCount = s.freeCount := rfl

@[simp] theorem State.writeTbr_globals (v : Word) : (s.writeTbr v).globals = s.globals := rfl
@[simp] theorem State.writeTbr_windows (v : Word) : (s.writeTbr v).windows = s.windows := rfl
@[simp] theorem State.writeTbr_pc (v : Word) : (s.writeTbr v).pc = s.npc := rfl
@[simp] theorem State.writeTbr_npc (v : Word) : (s.writeTbr v).npc = s.npc + 4 := rfl
@[simp] theorem State.writeTbr_psr (v : Word) : (s.writeTbr v).psr = s.psr := rfl
@[simp] theorem State.writeTbr_wim (v : Word) : (s.writeTbr v).wim = s.wim := rfl
@[simp] theorem State.writeTbr_tbr (v : Word) : (s.writeTbr v).tbr = { s.tbr with tba := v.extractLsb' 12 20 } := rfl
@[simp] theorem State.writeTbr_y (v : Word) : (s.writeTbr v).y = s.y := rfl
@[simp] theorem State.writeTbr_f (v : Word) : (s.writeTbr v).f = s.f := rfl
@[simp] theorem State.writeTbr_fsr (v : Word) : (s.writeTbr v).fsr = s.fsr := rfl
@[simp] theorem State.writeTbr_errorMode (v : Word) : (s.writeTbr v).errorMode = s.errorMode := rfl
@[simp] theorem State.writeTbr_flushPending (v : Word) : (s.writeTbr v).flushPending = flushAge s.flushPending := rfl
@[simp] theorem State.writeTbr_mem (v : Word) : (s.writeTbr v).mem = s.mem := rfl
@[simp] theorem State.writeTbr_irl (v : Word) : (s.writeTbr v).irl = s.irl := rfl
@[simp] theorem State.writeTbr_memFaults (v : Word) : (s.writeTbr v).memFaults = s.memFaults := rfl
@[simp] theorem State.writeTbr_freeCount (v : Word) : (s.writeTbr v).freeCount = s.freeCount := rfl

@[simp] theorem State.flush_globals (a : Word) : (s.flush a).globals = s.globals := rfl
@[simp] theorem State.flush_windows (a : Word) : (s.flush a).windows = s.windows := rfl
@[simp] theorem State.flush_pc (a : Word) : (s.flush a).pc = s.npc := rfl
@[simp] theorem State.flush_npc (a : Word) : (s.flush a).npc = s.npc + 4 := rfl
@[simp] theorem State.flush_psr (a : Word) : (s.flush a).psr = s.psr := rfl
@[simp] theorem State.flush_wim (a : Word) : (s.flush a).wim = s.wim := rfl
@[simp] theorem State.flush_tbr (a : Word) : (s.flush a).tbr = s.tbr := rfl
@[simp] theorem State.flush_y (a : Word) : (s.flush a).y = s.y := rfl
@[simp] theorem State.flush_f (a : Word) : (s.flush a).f = s.f := rfl
@[simp] theorem State.flush_fsr (a : Word) : (s.flush a).fsr = s.fsr := rfl
@[simp] theorem State.flush_errorMode (a : Word) : (s.flush a).errorMode = s.errorMode := rfl
@[simp] theorem State.flush_haz (a : Word) : (s.flush a).haz = s.haz.age := rfl
@[simp] theorem State.flush_flushPending (a : Word) :
    (s.flush a).flushPending = flushAfter s.flushPending (flushAge s.flushPending) (doublewordOf a) := rfl
@[simp] theorem State.flush_mem (a : Word) : (s.flush a).mem = s.mem := rfl
@[simp] theorem State.flush_irl (a : Word) : (s.flush a).irl = s.irl := rfl
@[simp] theorem State.flush_memFaults (a : Word) : (s.flush a).memFaults = s.memFaults := rfl
@[simp] theorem State.flush_freeCount (a : Word) : (s.flush a).freeCount = s.freeCount := rfl

@[simp] theorem State.tick_globals : (s.tick).globals = s.globals := rfl
@[simp] theorem State.tick_windows : (s.tick).windows = s.windows := rfl
@[simp] theorem State.tick_pc : (s.tick).pc = s.pc := rfl
@[simp] theorem State.tick_npc : (s.tick).npc = s.npc := rfl
@[simp] theorem State.tick_psr : (s.tick).psr = s.psr := rfl
@[simp] theorem State.tick_wim : (s.tick).wim = s.wim := rfl
@[simp] theorem State.tick_tbr : (s.tick).tbr = s.tbr := rfl
@[simp] theorem State.tick_y : (s.tick).y = s.y := rfl
@[simp] theorem State.tick_f : (s.tick).f = s.f := rfl
@[simp] theorem State.tick_fsr : (s.tick).fsr = s.fsr := rfl
@[simp] theorem State.tick_errorMode : (s.tick).errorMode = s.errorMode := rfl
@[simp] theorem State.tick_haz : (s.tick).haz = s.haz := rfl
@[simp] theorem State.tick_flushPending : (s.tick).flushPending = s.flushPending := rfl
@[simp] theorem State.tick_mem : (s.tick).mem = s.mem := rfl
@[simp] theorem State.tick_irl : (s.tick).irl = s.irl.tail := rfl
@[simp] theorem State.tick_memFaults : (s.tick).memFaults = s.memFaults := rfl
@[simp] theorem State.tick_freeCount : (s.tick).freeCount = s.freeCount + 1 := rfl

@[simp] theorem State.placeWord_globals (a v : Word) : (s.placeWord a v).globals = s.globals := rfl
@[simp] theorem State.placeWord_windows (a v : Word) : (s.placeWord a v).windows = s.windows := rfl
@[simp] theorem State.placeWord_pc (a v : Word) : (s.placeWord a v).pc = s.pc := rfl
@[simp] theorem State.placeWord_npc (a v : Word) : (s.placeWord a v).npc = s.npc := rfl
@[simp] theorem State.placeWord_psr (a v : Word) : (s.placeWord a v).psr = s.psr := rfl
@[simp] theorem State.placeWord_wim (a v : Word) : (s.placeWord a v).wim = s.wim := rfl
@[simp] theorem State.placeWord_tbr (a v : Word) : (s.placeWord a v).tbr = s.tbr := rfl
@[simp] theorem State.placeWord_y (a v : Word) : (s.placeWord a v).y = s.y := rfl
@[simp] theorem State.placeWord_f (a v : Word) : (s.placeWord a v).f = s.f := rfl
@[simp] theorem State.placeWord_fsr (a v : Word) : (s.placeWord a v).fsr = s.fsr := rfl
@[simp] theorem State.placeWord_errorMode (a v : Word) : (s.placeWord a v).errorMode = s.errorMode := rfl
@[simp] theorem State.placeWord_haz (a v : Word) : (s.placeWord a v).haz = s.haz := rfl
@[simp] theorem State.placeWord_irl (a v : Word) : (s.placeWord a v).irl = s.irl := rfl
@[simp] theorem State.placeWord_memFaults (a v : Word) : (s.placeWord a v).memFaults = s.memFaults := rfl
@[simp] theorem State.placeWord_freeCount (a v : Word) : (s.placeWord a v).freeCount = s.freeCount := rfl

end Sys2Proof.Machine
end

