-- ==== Sys2Proof/Laws/Ops.lean ====
section
/-! SUPPORT. What each shared operation can do, said once: the reads of a state no delayed write hides, registers read after a
write, the completion of an instruction, and raising a trap. -/

set_option Elab.async false

namespace Sys2Proof.Machine

/-! ### Reads of a state register outside its window -/

theorem readField_settled {α β : Type} {count : Nat} (old : Option α) (free v : β) (h : count = 0) :
    readField count old free v = v := by simp [readField, hidden, h]

theorem drawOld_settled {α : Type} {count : Nat} (old : Option α) (draw : Bool) (new : α) (h : count = 0) :
    drawOld count old draw new = new := by simp [drawOld, h]

theorem written_settled {α : Type} {count : Nat} (free v : α) (h : count = 0) : written count free v = v := by
  simp [written, h]

/-- An implicit write, as the statements spell it. -/
theorem written_eq {α : Type} (count : Nat) (free v : α) : written count free v = if count = 0 then v else free := by
  unfold written
  by_cases h : count = 0
  · simp [h]
  · simp [h, Nat.pos_of_ne_zero h]

variable {s : State}

theorem iccRead_settled (h : s.haz.psr.count = 0) : s.iccRead = s.psr.icc := readField_settled _ _ _ h
theorem cwpRead_settled (h : s.haz.psr.count = 0) : s.cwpRead = s.window := readField_settled _ _ _ h
theorem sRead_settled (h : s.haz.psr.count = 0) : s.sRead = s.psr.s := readField_settled _ _ _ h
theorem psRead_settled (h : s.haz.psr.count = 0) : s.psRead = s.psr.ps := readField_settled _ _ _ h
theorem etRead_settled (h : s.haz.psr.count = 0) : s.etRead = s.psr.et := readField_settled _ _ _ h
theorem pilRead_settled (h : s.haz.psr.count = 0) : s.pilRead = s.psr.pil := readField_settled _ _ _ h
theorem efRead_settled (h : s.haz.psr.count = 0) : s.efRead = s.psr.ef := by
  simp [State.efRead, readField_settled _ _ _ h, Config.hasFpu]
theorem wimRead_settled (h : s.haz.wim.count = 0) : s.wimRead = wimMask &&& s.wim := by
  simp [State.wimRead, readField_settled _ _ _ h]
theorem tbaRead_settled (h : s.haz.tbr.count = 0) : s.tbaRead = s.tbr.tba := readField_settled _ _ _ h
theorem yRead_settled (h : s.haz.y.count = 0) : s.yRead = s.y := readField_settled _ _ _ h
theorem trapEt_settled (h : s.haz.psr.count = 0) : s.trapEt = s.psr.et := readField_settled _ _ _ h
theorem trapS_settled (h : s.haz.psr.count = 0) : s.trapS = s.psr.s := drawOld_settled _ _ _ h
theorem trapCwp_settled (h : s.haz.psr.count = 0) : s.trapCwp = s.window :=
  congrArg BitVec.toNat (drawOld_settled _ _ _ h)
theorem trapTba_settled (h : s.haz.tbr.count = 0) : s.trapTba = s.tbr.tba := drawOld_settled _ _ _ h

/-! ### r registers -/

@[simp] theorem State.rw_zero (s : State) (w : Nat) : s.rw w 0#5 = 0#32 := by unfold State.rw; rfl
@[simp] theorem State.setRw_zero (s : State) (w : Nat) (v : Word) : s.setRw w 0#5 v = s := by unfold State.setRw; rfl

theorem reg_pos {i : Reg} (h : i ≠ 0) : 0 < i.toNat := Nat.pos_of_ne_zero (fun h0 => h (BitVec.eq_of_toNat_eq h0))

theorem State.rw_global (s : State) (w : Nat) {i : Reg} (h0 : i ≠ 0) (h8 : i.toNat < 8) :
    s.rw w i = s.globals[(i.toNat - 1) % 7]'(Nat.mod_lt _ (by decide)) := by unfold State.rw; rw [if_neg h0, if_pos h8]

theorem State.rw_window (s : State) (w : Nat) {i : Reg} (h8 : ¬ i.toNat < 8) :
    s.rw w i = s.windows[State.slot w i]'(Nat.mod_lt _ (by decide)) := by
  unfold State.rw
  rw [if_neg (fun h0 => h8 (by subst h0; decide)), if_neg h8]

theorem State.setRw_global (s : State) (w : Nat) {i : Reg} (v : Word) (h0 : i ≠ 0) (h8 : i.toNat < 8) :
    s.setRw w i v = { s with globals := s.globals.set ((i.toNat - 1) % 7) v (Nat.mod_lt _ (by decide)) } := by
  unfold State.setRw; rw [if_neg h0, if_pos h8]

theorem State.setRw_window (s : State) (w : Nat) {i : Reg} (v : Word) (h8 : ¬ i.toNat < 8) :
    s.setRw w i v = { s with windows := s.windows.set (State.slot w i) v (Nat.mod_lt _ (by decide)) } := by
  unfold State.setRw
  rw [if_neg (fun h0 => h8 (by subst h0; decide)), if_neg h8]

/-- A written register is read back through every window that shows it. -/
theorem rw_setRw_same (s : State) (w : Nat) (i : Reg) (v : Word) (u : Nat) (j : Reg) (hi : i ≠ 0) (h : sameReg w i u j) :
    (s.setRw w i v).rw u j = v := by
  unfold sameReg at h
  by_cases h8 : i.toNat < 8
  · rw [if_pos h8] at h
    subst h
    rw [State.rw_global _ _ hi h8, State.setRw_global _ _ _ hi h8]
    exact Vector.getElem_set_self _
  · rw [if_neg h8] at h
    rw [State.rw_window _ _ (Nat.not_lt.mpr h.1), State.setRw_window _ _ _ h8]
    simp only [← h.2]
    exact Vector.getElem_set_self _

/-- A write changes no other register. -/
theorem rw_setRw_other (s : State) (w : Nat) (i : Reg) (v : Word) : regsKeptBut s (s.setRw w i v) w i := by
  intro u j h
  by_cases hi : i = 0
  · subst hi; rfl
  by_cases hj : j = 0
  · subst hj; rfl
  have hpi := reg_pos hi
  have hpj := reg_pos hj
  unfold sameReg at h
  by_cases hi8 : i.toNat < 8
  · rw [if_pos hi8] at h
    rw [State.setRw_global _ _ _ hi hi8]
    by_cases hj8 : j.toNat < 8
    · rw [State.rw_global _ _ hj hj8, State.rw_global _ _ hj hj8]
      have hne : (i.toNat - 1) % 7 ≠ (j.toNat - 1) % 7 := fun he => h (BitVec.eq_of_toNat_eq (by omega))
      exact Vector.getElem_set_ne (Nat.mod_lt _ (by decide)) (Nat.mod_lt _ (by decide)) hne
    · rw [State.rw_window _ _ hj8, State.rw_window _ _ hj8]
  · rw [if_neg hi8] at h
    rw [State.setRw_window _ _ _ hi8]
    by_cases hj8 : j.toNat < 8
    · rw [State.rw_global _ _ hj hj8, State.rw_global _ _ hj hj8]
    · rw [State.rw_window _ _ hj8, State.rw_window _ _ hj8]
      exact Vector.getElem_set_ne (Nat.mod_lt _ (by decide)) (Nat.mod_lt _ (by decide)) (fun he => h ⟨Nat.not_lt.mp hj8, he⟩)

theorem sameReg_self (w : Nat) (i : Reg) : sameReg w i w i := by
  unfold sameReg
  split
  · rfl
  · exact ⟨by omega, rfl⟩

theorem writesReg_setRw (s : State) (w : Nat) (i : Reg) (v : Word) : writesReg s (s.setRw w i v) w i v := by
  refine ⟨?_, rw_setRw_other s w i v⟩
  by_cases hi : i = 0
  · subst hi; rfl
  · rw [if_neg hi]
    exact rw_setRw_same s w i v w i hi (sameReg_self w i)

/-- What is read of the r registers depends on their two banks only. -/
theorem rw_congr {t : State} (hg : t.globals = s.globals) (hw : t.windows = s.windows) (w : Nat) (i : Reg) :
    t.rw w i = s.rw w i := by
  unfold State.rw
  rw [hg, hw]

theorem writesReg_congr {t t' : State} {w : Nat} {i : Reg} {v : Word} (h : writesReg s t w i v)
    (hg : t'.globals = t.globals) (hw : t'.windows = t.windows) : writesReg s t' w i v :=
  ⟨(rw_congr hg hw w i).trans h.1, fun u j hn => (rw_congr hg hw u j).trans (h.2 u j hn)⟩

theorem regsKept_congr {t : State} (hg : t.globals = s.globals) (hw : t.windows = s.windows) : regsKept s t :=
  fun v j => rw_congr hg hw v j

theorem memKept_of_eq {t : State} (h : t.mem = s.mem) : memKept s t := fun a => by unfold State.byte; rw [h]

theorem fpuKept_of_eq {t : State} (hf : t.f = s.f) (hs : t.fsr = s.fsr) : fpuKept s t :=
  ⟨fun i => by unfold State.fr; simp only [hf], hs⟩

/-! ### Raising a trap -/

@[simp] theorem raiseIf_true (t : Trap) (s : State) (k : Result) : raiseIf true t s k = raise t s := rfl
@[simp] theorem raiseIf_false (t : Trap) (s : State) (k : Result) : raiseIf false t s k = k := rfl

/-- Raising answers the trap entry, or error_mode: always a next state. -/
theorem raise_cases (t : Trap) (s : State) : traps (raise t s) t s := by
  constructor <;> intro h <;> simp [raise, h]

/-- The two states raising can lead to. -/
theorem raise_next {t : Trap} {u : State} (h : raise t s = .next u) :
    (s.trapEt = true ∧ u = s.trapEntry (trapType t)) ∨ (s.trapEt = false ∧ u = s.enterErrorMode) := by
  unfold raise at h
  split at h
  · next he => exact .inl ⟨he, (Host.Outcome.next.inj h).symm⟩
  · next he => exact .inr ⟨by simpa using he, (Host.Outcome.next.inj h).symm⟩

theorem raise_isNext (t : Trap) (s : State) : ∃ u, raise t s = .next u := by
  unfold raise; split <;> exact ⟨_, rfl⟩

/-- A raise out of RETT: the trap entry of any raise, or RETT's own entry to error_mode. -/
theorem raiseFromRett_cases (t : Trap) (s : State) :
    (s.trapEt = true → raiseFromRett t s = .next (s.trapEntry (trapType t)))
    ∧ (s.trapEt = false → raiseFromRett t s = .next (s.rettErrorMode t)) := by
  unfold raiseFromRett; constructor <;> intro h <;> simp [h]

@[simp] theorem needSupervisor_ok {k : Result} (h : s.sRead = true) : needSupervisor s k = k := by simp [needSupervisor, h]
@[simp] theorem needSupervisor_trap {k : Result} (h : s.sRead = false) :
    needSupervisor s k = raise .privilegedInstruction s := by simp [needSupervisor, h]
@[simp] theorem needFpu_ok {k : Result} (h : s.efRead = true) : needFpu s k = k := by simp [needFpu, h]
@[simp] theorem needFpu_trap {k : Result} (h : s.efRead = false) : needFpu s k = raise .fpDisabled s := by simp [needFpu, h]
/-- There is no coprocessor: the test always fails. -/
@[simp] theorem needCp_trap (s : State) (k : Result) : needCp s k = raise .cpDisabled s := by
  simp [needCp, State.ecRead, Config.hasCp]
/-- Reserved bits are ignored under the policy chosen (log 13). -/
@[simp] theorem reserved_ignored (b : Bool) (k : Result) : reserved b k = k := by
  have h : (Config.reservedPolicy == Config.ReservedPolicy.refuse) = false := by decide
  simp [reserved, h]

theorem access_ok {asi : Asi} {a : Word} {n : Nat} {kind : AccessKind} {onFault : AccessFault → Result} {k : Result}
    (ha : asiAssigned asi = true) (hf : s.memFault asi a n kind = none) : access s asi a n kind onFault k = k := by
  simp [access, ha, hf]

theorem access_fault {asi : Asi} {a : Word} {n : Nat} {kind : AccessKind} {onFault : AccessFault → Result} {k : Result}
    {f : AccessFault} (ha : asiAssigned asi = true) (hf : s.memFault asi a n kind = some f) :
    access s asi a n kind onFault k = onFault f := by
  simp [access, ha, hf]

theorem accessOrTrap_ok {asi : Asi} {a : Word} {n : Nat} {kind : AccessKind} {k : Result}
    (ha : asiAssigned asi = true) (hf : s.memFault asi a n kind = none) : accessOrTrap s asi a n kind k = k :=
  access_ok ha hf

@[simp] theorem asiAssigned_dasi (s : State) : asiAssigned s.dasi = true := by
  unfold State.dasi; split <;> decide

theorem asiAssigned_of_mem {asi : Asi} (h : asi ∈ [0x08, 0x09, 0x0A, 0x0B]) : asiAssigned asi = true := by
  simp only [List.mem_cons, List.not_mem_nil, or_false] at h
  rcases h with rfl | rfl | rfl | rfl <;> decide

theorem access_unassigned {asi : Asi} {a : Word} {n : Nat} {kind : AccessKind} {onFault : AccessFault → Result} {k : Result}
    (h : asi ∉ [(0x08 : Asi), 0x09, 0x0A, 0x0B]) : access s asi a n kind onFault k = .refused .unassignedAsi := by
  unfold access
  rw [if_neg]
  simp only [List.mem_cons, List.not_mem_nil, or_false, not_or] at h
  simp only [asiAssigned, Config.asiUserInstr, Config.asiSuperInstr, Config.asiUserData, Config.asiSuperData, Bool.or_eq_true,
    beq_iff_eq, not_or]
  exact ⟨⟨⟨h.1, h.2.1⟩, h.2.2.1⟩, h.2.2.2⟩

theorem misaligned_eq_false {n : Nat} {ea : Word} : misaligned n ea = false ↔ ea.toNat % n = 0 := by simp [misaligned]
theorem misaligned_eq_true {n : Nat} {ea : Word} : misaligned n ea = true ↔ ea.toNat % n ≠ 0 := by simp [misaligned]

/-! ### Hazards: aging, and what a window keeps -/

theorem Shadow.age_count {α : Type} (h : Shadow α) : h.age.count = h.count - 1 := by
  unfold Shadow.age; split <;> simp_all [Shadow.empty]
/-- While it stays open, a window keeps its old value. -/
theorem Shadow.age_eq {α : Type} (h : Shadow α) (hn : h.age.count ≠ 0) : h.age = { h with count := h.age.count } := by
  unfold Shadow.age at *; split <;> simp_all [Shadow.empty]
theorem PsrShadow.age_count (h : PsrShadow) : h.age.count = h.count - 1 := by
  unfold PsrShadow.age; split <;> simp_all [PsrShadow.empty]
/-- While it stays open, the PSR window keeps its old fields. -/
theorem PsrShadow.age_eq (h : PsrShadow) (hn : h.age.count ≠ 0) : h.age = { h with count := h.age.count } := by
  unfold PsrShadow.age at *; split <;> simp_all [PsrShadow.empty]

/-- The quirks with a step left, each one step nearer its end. -/
theorem Hazards.agedQuirks_eq (h : Hazards) : h.agedQuirks =
    (h.pilQuirks.filter (fun q => 1 < q.count)).map (fun q => { q with count := q.count - 1 }) := by
  unfold Hazards.agedQuirks
  induction h.pilQuirks with
  | nil => rfl
  | cons q l ih =>
    by_cases hq : q.count ≤ 1
    · rw [List.filterMap_cons_none (by simp [PilQuirk.age, hq]), List.filter_cons_of_neg (by simp; omega), ih]
    · rw [List.filterMap_cons_some (b := { q with count := q.count - 1 }) (by simp [PilQuirk.age, hq]),
        List.filter_cons_of_pos (by simp; omega), ih]; rfl

theorem keepsOld_keptOld {α : Type} [DecidableEq α] (count : Nat) (kept : Option α) (old new : α) :
    keepsOld count kept (keptOld count kept old new) old new := by
  unfold keepsOld keptOld
  refine ⟨fun h1 h2 => by simp [h1, h2], fun h => ⟨fun he => ?_, fun he => ?_⟩⟩ <;> rcases h with h | h <;> simp [h, he]

/-! ### Completing -/

theorem sequential_finish (u : State) (hn : u.npc = s.npc) : sequential s u.retire.advance := by
  simp [sequential, hn]

/-- `finish`, where the writes before it left all but the r registers, the PSR and Y. -/
theorem integerFrame_finish {u : State} (hm : u.mem = s.mem) (hf : u.f = s.f) (hs : u.fsr = s.fsr) (hw : u.wim = s.wim)
    (ht : u.tbr = s.tbr) (he : u.errorMode = s.errorMode) (hx : u.memFaults = s.memFaults) (hi : u.irl = s.irl)
    (hc : u.freeCount = s.freeCount) (hh : u.haz = s.haz) (hp : u.flushPending = s.flushPending) :
    integerFrame s u.retire.advance := by
  refine ⟨memKept_of_eq (by simp [hm]), fpuKept_of_eq (by simp [hf]) (by simp [hs]), ?_, ?_, ?_⟩
  · simp [systemKept, hw, ht, he, hx, hi, hc]
  · simp [State.retire, State.advance, hh]
  · simp [State.retire, State.advance, hp]

/-- An instruction that only advances. -/
theorem finish_spec (s : State) : ∃ t, finish s = .next t ∧ sequential s t ∧ regsKept s t ∧ t.psr = s.psr ∧ t.y = s.y
    ∧ integerFrame s t :=
  ⟨_, rfl, sequential_finish s rfl, regsKept_congr rfl rfl, by simp, by simp,
    integerFrame_finish rfl rfl rfl rfl rfl rfl rfl rfl rfl rfl rfl⟩

/-- Writing one r register and completing. -/
theorem writeReg_spec (s : State) (rd : Reg) (v : Word) : ∃ t, writeReg s rd v = .next t ∧ sequential s t
    ∧ writesReg s t s.cwpRead rd v ∧ t.psr = s.psr ∧ t.y = s.y ∧ integerFrame s t :=
  ⟨_, rfl, sequential_finish _ (by simp), writesReg_congr (writesReg_setRw s _ rd v) (by simp [State.setR]) (by simp [State.setR]),
    by simp, by simp, integerFrame_finish (by simp) (by simp) (by simp) (by simp) (by simp) (by simp) (by simp) (by simp)
      (by simp) (by simp) (by simp)⟩

theorem setIcc_psr_eq (s : State) (c : Icc) : (s.setIcc c).psr = psrWithIcc s c := by
  simp [State.setIcc, psrWithIcc, written_eq]

theorem setY_y_eq (s : State) (v : Word) : (s.setY v).y = yWith s v := by simp [State.setY, yWith, written_eq]

/-- Writing one r register and icc and completing. -/
theorem writeRegCc_spec (s : State) (rd : Reg) (v : Word) (c : Icc) : ∃ t, writeRegCc s rd v c = .next t ∧ sequential s t
    ∧ writesReg s t s.cwpRead rd v ∧ t.psr = psrWithIcc s c ∧ t.y = s.y ∧ integerFrame s t :=
  ⟨_, rfl, sequential_finish _ (by simp), writesReg_congr (writesReg_setRw s _ rd v) (by simp [State.setR]) (by simp [State.setR]),
    by simp [State.retire, State.advance, setIcc_psr_eq, psrWithIcc], by simp,
    integerFrame_finish (by simp) (by simp) (by simp) (by simp) (by simp) (by simp) (by simp) (by simp) (by simp) (by simp)
      (by simp)⟩

/-! ### Storing -/

/-- A store, aged: its doubleword is marked, every other is as after any instruction. -/
theorem marksDoubleword_store (s : State) (ea : Word) {t : State}
    (h : t.flushPending = flushAge (flushSet s.flushPending (doublewordOf ea) .dirty)) : marksDoubleword s t ea := by
  refine ⟨?_, fun d hd => ?_⟩
  · rw [h]; exact Laws.flushFind_flushAge_dirty (by simp [Laws.flushFind_flushSet])
  · rw [h]; exact Laws.flushFind_flushAge_flushSet_dirty _ hd

/-- Storing bytes and completing: the bytes are in memory, nothing else changes but the mark on the doubleword. -/
theorem store_spec (s : State) (ea : Word) (bs : List Byte) (h : memWf s.mem = true) (hl : bs.length ≤ 8) :
    ∃ t, finish (s.store ea bs) = .next t ∧ sequential s t ∧ memKeptBut s t ea bs.length
      ∧ (∀ (k : Nat) (hk : k < bs.length), t.byte (ea + BitVec.ofNat 32 k) = bs[k]) ∧ storeFrame s t ea :=
  ⟨_, rfl, sequential_finish _ rfl, fun a ha => Laws.memRead_memWriteBytes_other s.mem ea a bs ha,
    fun k hk => Laws.memRead_memWriteBytes_at ea bs h k hk (by omega), regsKept_congr rfl rfl, rfl, rfl,
    fpuKept_of_eq rfl rfl, ⟨rfl, rfl, rfl, rfl, rfl, rfl⟩, rfl,
    marksDoubleword_store s ea rfl⟩

/-- Adjacent fields of a bit vector joined. -/
theorem extract_append {w : Nat} (v : BitVec w) (a m n : Nat) :
    v.extractLsb' (a + n) m ++ v.extractLsb' a n = v.extractLsb' a (m + n) := by
  apply BitVec.eq_of_getLsbD_eq
  intro i hi
  simp only [BitVec.getLsbD_append, BitVec.getLsbD_extractLsb', hi, decide_true, Bool.true_and]
  by_cases h : i < n
  · simp [h]
  · simp [h, show i - n < m by omega, show a + n + (i - n) = a + i by omega]

/-- A word stored is read back. -/
theorem word_of_bytes {t : State} {ea v : Word} (h : ∀ (k : Nat) (hk : k < (wordBytes v).length),
    t.byte (ea + BitVec.ofNat 32 k) = (wordBytes v)[k]) : t.word ea = v := by
  have h0 : t.byte ea = v.extractLsb' 24 8 := by simpa [wordBytes] using h 0 (by simp [wordBytes])
  have h1 : t.byte (ea + 1) = v.extractLsb' 16 8 := h 1 (by simp [wordBytes])
  have h2 : t.byte (ea + 2) = v.extractLsb' 8 8 := h 2 (by simp [wordBytes])
  have h3 : t.byte (ea + 3) = v.extractLsb' 0 8 := h 3 (by simp [wordBytes])
  unfold State.word
  rw [h0, h1, h2, h3, extract_append v 16 8 8, extract_append v 8 16 8, extract_append v 0 24 8]
  ext i hi; simp

/-! ### f registers -/

/-- An f register after a write. -/
theorem fr_setF (s : State) (i j : Reg) (v : Word) : (s.setF i v).fr j = if i = j then v else s.fr j := by
  unfold State.fr State.setF
  by_cases h : i = j
  · subst h; simp
  · have : i.toNat ≠ j.toNat := fun e => h (BitVec.eq_of_toNat_eq e)
    simp [h, this]

theorem evenReg_ne_oddReg (i : Reg) : evenReg i ≠ oddReg i := by revert i; decide
theorem quadReg_ne {i : Reg} {j k : BitVec 5} (hj : j.toNat < 4) (hk : k.toNat < 4) (h : j ≠ k) : quadReg i j ≠ quadReg i k := by
  have low (k : BitVec 5) (hk : k.toNat < 4) : quadReg i k &&& 0b00011#5 = k := by
    have hk' : k &&& 0b00011#5 = k := by revert k; decide
    have hi : i &&& 0b11100#5 &&& 0b00011#5 = 0#5 := by rw [BitVec.and_assoc]; simp
    unfold quadReg
    rw [show (i &&& 0b11100#5 ||| k) &&& 0b00011#5 = (i &&& 0b11100#5 &&& 0b00011#5) ||| (k &&& 0b00011#5) from
      BitVec.and_or_distrib_right, hi, hk', BitVec.zero_or]
  intro e
  exact h (by rw [← low j hj, ← low k hk, e])
theorem append_halves (v : DWord) : v.extractLsb' 32 32 ++ v.extractLsb' 0 32 = v := by
  rw [extract_append v 0 32 32]
  ext i hi; simp
theorem append_quarters (v : BitVec 128) :
    v.extractLsb' 96 32 ++ v.extractLsb' 64 32 ++ v.extractLsb' 32 32 ++ v.extractLsb' 0 32 = v := by
  rw [extract_append v 64 32 32, extract_append v 32 64 32, extract_append v 0 96 32]
  ext i hi; simp
/-- Writing the destination of a format writes its registers and no other. -/
theorem setFp_spec (s : State) (fmt : FpFormat) (rd : Reg) (bits : Nat) : writesFp s (s.setFp fmt rd bits) fmt rd bits := by
  cases fmt
  · simp only [writesFp, State.setFp, fr_setF]
    exact ⟨if_pos trivial, fun i h => if_neg (Ne.symm h)⟩
  · simp only [writesFp, State.setFp, State.setFD, State.frD, fr_setF]
    have := evenReg_ne_oddReg rd
    refine ⟨?_, fun i h1 h2 => ?_⟩
    · simp [Ne.symm this, append_halves]
    · simp [Ne.symm h1, Ne.symm h2]
  · have h01 := quadReg_ne (i := rd) (j := 0) (k := 1) (by decide) (by decide) (by decide)
    have h02 := quadReg_ne (i := rd) (j := 0) (k := 2) (by decide) (by decide) (by decide)
    have h03 := quadReg_ne (i := rd) (j := 0) (k := 3) (by decide) (by decide) (by decide)
    have h12 := quadReg_ne (i := rd) (j := 1) (k := 2) (by decide) (by decide) (by decide)
    have h13 := quadReg_ne (i := rd) (j := 1) (k := 3) (by decide) (by decide) (by decide)
    have h23 := quadReg_ne (i := rd) (j := 2) (k := 3) (by decide) (by decide) (by decide)
    simp only [writesFp, State.setFp, State.setFQ, State.frQ, fr_setF]
    refine ⟨?_, fun i h => ?_⟩
    · simp only [if_pos, if_neg (Ne.symm h01), if_neg (Ne.symm h02), if_neg (Ne.symm h03), if_neg (Ne.symm h12),
        if_neg (Ne.symm h13), if_neg (Ne.symm h23), append_quarters]
    · rw [if_neg (Ne.symm (h 3 (by decide))), if_neg (Ne.symm (h 2 (by decide))), if_neg (Ne.symm (h 1 (by decide))),
        if_neg (Ne.symm (h 0 (by decide)))]

/-! ### What holds of every next state of a result -/

/-- Every next state `r` answers satisfies `P`. -/
def AllNext (P : State → Prop) (r : Result) : Prop := ∀ t, r = .next t → P t

variable {P : State → Prop}

@[simp] theorem allNext_next {t : State} : AllNext P (.next t) ↔ P t :=
  ⟨fun h => h t rfl, fun h _ ht => Host.Outcome.next.inj ht ▸ h⟩
@[simp] theorem allNext_fault (f : Fault) : AllNext P (.fault f) := fun _ h => nomatch h
@[simp] theorem allNext_refused (f : Refusal) : AllNext P (.refused f) := fun _ h => nomatch h

theorem allNext_raise {t : Trap} (he : P (s.trapEntry (trapType t))) (hm : P s.enterErrorMode) : AllNext P (raise t s) := by
  unfold raise; split <;> simpa

theorem allNext_raiseFromRett {t : Trap} (hr : AllNext P (raise t s)) (hm : s.trapEt = false → P (s.rettErrorMode t)) :
    AllNext P (raiseFromRett t s) := by
  cases h : s.trapEt
  · rw [(raiseFromRett_cases t s).2 h]; exact allNext_next.mpr (hm h)
  · rw [(raiseFromRett_cases t s).1 h, ← (raise_cases t s).1 h]; exact hr

theorem allNext_raiseIf {c : Bool} {t : Trap} {k : Result} (hr : AllNext P (raise t s)) (hk : AllNext P k) :
    AllNext P (raiseIf c t s k) := by cases c <;> simpa

theorem allNext_needSupervisor {k : Result} (hr : AllNext P (raise .privilegedInstruction s)) (hk : AllNext P k) :
    AllNext P (needSupervisor s k) := allNext_raiseIf hr hk

theorem allNext_needFpu {k : Result} (hr : AllNext P (raise .fpDisabled s)) (hk : AllNext P k) : AllNext P (needFpu s k) :=
  allNext_raiseIf hr hk

theorem allNext_access {asi : Asi} {a : Word} {n : Nat} {kind : AccessKind} {onFault : AccessFault → Result} {k : Result}
    (hf : ∀ f, AllNext P (onFault f)) (hk : AllNext P k) : AllNext P (access s asi a n kind onFault k) := by
  unfold access
  split
  · split
    · exact hf _
    · exact hk
  · simp

theorem allNext_accessOrTrap {asi : Asi} {a : Word} {n : Nat} {kind : AccessKind} {k : Result}
    (hr : ∀ t, AllNext P (raise t s)) (hk : AllNext P k) : AllNext P (accessOrTrap s asi a n kind k) :=
  allNext_access (fun f => hr (dataTrap f)) hk

theorem allNext_ite {c : Prop} [Decidable c] {a b : Result} (ha : AllNext P a) (hb : AllNext P b) :
    AllNext P (if c then a else b) := by split <;> assumption

end Sys2Proof.Machine
end

