-- ==== Sys2Proof/Laws/Exec.lean ====
section
/-! SUPPORT. What `exec` can do, said once: a property of every next state of an instruction follows from the property of the few
shapes of state that the shared operations build. A proof about all instructions cites `exec_allNext` and unfolds none of them. -/

set_option Elab.async false

namespace Sys2Proof.Machine

/-- The shapes of next state of instruction `i` from `s`, each with what is known where it is built. -/
structure Leaves (i : Instr) (s : State) (P : State → Prop) : Prop where
  trap : ∀ t, AllNext P (raise t s)
  trapReg : ∀ t rd v, AllNext P (raise t (s.setR rd v))
  trapStore : ∀ t ea n bs, storeRange i s = some (ea, n) → bs.length ≤ n → AllNext P (raise t (s.store ea bs))
  trapFsr : s.efRead = true → ∀ t f, f.qne = s.fsr.qne → AllNext P (raise t { s with fsr := f })
  trapF : s.efRead = true → ∀ t rd v, AllNext P (raise t (s.setF rd v))
  trapFD : s.efRead = true → ∀ t rd v, AllNext P (raise t (s.setFD rd v))
  plain : P s.retire.advance
  reg : ∀ rd v, P (s.setR rd v).retire.advance
  pair : ∀ rd v rd' v', P ((s.setR rd v).setR rd' v').retire.advance
  regIcc : ∀ rd v c, P ((s.setR rd v).setIcc c).retire.advance
  regY : ∀ rd v y, P ((s.setR rd v).setY y).retire.advance
  regIccY : ∀ rd v c y, P (((s.setR rd v).setIcc c).setY y).retire.advance
  store : ∀ ea n bs, storeRange i s = some (ea, n) → bs.length ≤ n → P (s.store ea bs).retire.advance
  storeReg : ∀ ea n bs rd v, storeRange i s = some (ea, n) → bs.length ≤ n → P ((s.store ea bs).setR rd v).retire.advance
  loadF : s.efRead = true → ∀ rd v, P (s.setF rd v).retire.advance
  loadFD : s.efRead = true → ∀ rd v, P (s.setFD rd v).retire.advance
  loadFsr : s.efRead = true → ∀ rd rs1 o w, i = .ldfsr rd rs1 o → P (s.loadFsr w).retire.advance.openLdfsr
  fpop : s.efRead = true → ∀ exc dst rd bits, P (({ s with fsr := s.fsr.completed exc } : State).setFp dst rd bits).retire.advance
  compare : s.efRead = true → isCompare i = true → ∀ exc v, P (({ s with fsr := s.fsr.completed exc } : State).setFcc v).retire.advance.markFpop2
  window : ∀ w rd v, w < Config.nwindows → P ((s.setRw w rd v).setCwp w).retire.advance
  branch : ∀ taken unconditional a d b, (b = true → isConditionalBranch i = true) →
    P ((s.retire.branchTo taken unconditional a (branchTarget s.pc d)).markBranch b)
  couple : ∀ b, (b = true → isConditionalBranch i = true) → P (s.retire.branchCouple.markBranch b)
  call : ∀ d, P ((s.setR 15 s.pc).retire.transfer (callTarget s.pc d))
  jmpl : isJmpl i = true → ∀ rd ea, misaligned 4 ea = false → P ((s.setR rd s.pc).retire.transfer ea).markJmpl
  rettError : s.etRead = false ∨ s.trapEt = false → ∀ t, P (s.rettErrorMode t)
  rett : s.etRead = false → s.sRead = true → ∀ w ea b, w < Config.nwindows → misaligned 4 ea = false →
    P ((s.returnFromTrap w ea).retire.markFetchSpace b)
  writeY : ∀ rs1 o v, i = .wry rs1 o → P (s.writeY v)
  writePsr : s.sRead = true → ∀ rs1 o v, i = .wrpsr rs1 o → (v.extractLsb' 0 5 : BitVec 5).toNat < Config.nwindows → P (s.writePsr v)
  writeWim : s.sRead = true → ∀ rs1 o v, i = .wrwim rs1 o → P (s.writeWim v)
  writeTbr : s.sRead = true → ∀ rs1 o v, i = .wrtbr rs1 o → P (s.writeTbr v)
  flush : ∀ rs1 o, i = .flush rs1 o → ∀ ea, P (s.flush ea)

variable {i : Instr} {s : State} {P : State → Prop}

/-! ### The enables, with what they establish -/

theorem allNext_supervisor {k : Result} (h : AllNext P (raise .privilegedInstruction s)) (hk : s.sRead = true → AllNext P k) :
    AllNext P (needSupervisor s k) := by
  cases hs : s.sRead
  · rw [needSupervisor_trap hs]; exact h
  · rw [needSupervisor_ok hs]; exact hk hs

theorem allNext_fpu {k : Result} (h : AllNext P (raise .fpDisabled s)) (hk : s.efRead = true → AllNext P k) :
    AllNext P (needFpu s k) := by
  cases hs : s.efRead
  · rw [needFpu_trap hs]; exact h
  · rw [needFpu_ok hs]; exact hk hs

theorem allNext_aligned {n : Nat} {ea : Word} {k : Result} (h : AllNext P (raise .memAddressNotAligned s))
    (hk : misaligned n ea = false → AllNext P k) : AllNext P (raiseIf (misaligned n ea) .memAddressNotAligned s k) := by
  cases hm : misaligned n ea
  · exact hk hm
  · exact h

/-! ### The shared operations -/

variable (L : Leaves i s P)
include L

theorem allNext_finish : AllNext P (finish s) := allNext_next.mpr L.plain

theorem allNext_writeReg (rd : Reg) (v : Word) : AllNext P (writeReg s rd v) := allNext_next.mpr (L.reg rd v)

theorem allNext_writeRegCc (rd : Reg) (v : Word) (c : Icc) : AllNext P (writeRegCc s rd v c) :=
  allNext_next.mpr (L.regIcc rd v c)

theorem allNext_writeProduct (rd : Reg) (p : DWord) : AllNext P (writeProduct s rd p) := allNext_next.mpr (L.regY rd _ _)

theorem allNext_writeProductCc (rd : Reg) (p : DWord) : AllNext P (writeProductCc s rd p) :=
  allNext_next.mpr (L.regIccY rd _ _ _)

theorem allNext_mulStep (rd : Reg) (a b : Word) : AllNext P (mulStep s rd a b) := allNext_next.mpr (L.regIccY rd _ _ _)

theorem allNext_divide (rd : Reg) (d : Word) (q : Quotient) (cc : Bool) : AllNext P (divide s rd d q cc) := by
  refine allNext_raiseIf (L.trap _) ?_
  cases cc
  · exact allNext_next.mpr (L.regY rd _ _)
  · exact allNext_next.mpr (L.regIccY rd _ _ _)

theorem allNext_changeWindow {w : Nat} (hw : w < Config.nwindows) (t : Trap) (rd : Reg) (v : Word) :
    AllNext P (changeWindow s w t rd v) := allNext_raiseIf (L.trap _) (allNext_next.mpr (L.window w rd v hw))

theorem allNext_branch (taken unconditional a : Bool) (d : BitVec 22)
    (h : unconditional = true ∨ isConditionalBranch i = true) : AllNext P (branch s taken unconditional a d) := by
  unfold branch
  split
  · exact allNext_next.mpr (L.couple _ (fun hb => h.resolve_left (by simpa using hb)))
  · exact allNext_next.mpr (L.branch _ _ _ _ _ (fun hb => h.resolve_left (by revert hb; cases unconditional <;> simp)))

theorem allNext_fpBranch (taken unconditional a : Bool) (d : BitVec 22)
    (h : unconditional = true ∨ isConditionalBranch i = true) : AllNext P (fpBranch s taken unconditional a d) :=
  allNext_needFpu (L.trap _) (allNext_branch L _ _ _ _ h)

theorem allNext_needCp (k : Result) : AllNext P (needCp s k) := by rw [needCp_trap]; exact L.trap _

theorem allNext_cpBranch (taken unconditional a : Bool) (d : BitVec 22) : AllNext P (cpBranch s taken unconditional a d) :=
  allNext_needCp L _

theorem allNext_ticc (test : Bool) (rs1 : Reg) (o : TrapOperand) : AllNext P (ticc s test rs1 o) :=
  allNext_raiseIf (L.trap _) (allNext_finish L)

theorem allNext_accessTrap (asi : Asi) (a : Word) (n : Nat) (kind : AccessKind) {k : Result} (hk : AllNext P k) :
    AllNext P (accessOrTrap s asi a n kind k) := allNext_accessOrTrap L.trap hk

theorem allNext_alternate (x : Bool) {k : Result} (hk : AllNext P k) : AllNext P (alternate s x k) :=
  allNext_needSupervisor (L.trap _) (allNext_raiseIf (L.trap _) hk)

theorem allNext_loadByte (asi : Asi) (ea : Word) (rd : Reg) (f : Byte → Word) : AllNext P (loadByte s asi ea rd f) :=
  allNext_accessTrap L _ _ _ _ (allNext_writeReg L _ _)

theorem allNext_loadHalf (asi : Asi) (ea : Word) (rd : Reg) (f : BitVec 16 → Word) : AllNext P (loadHalf s asi ea rd f) :=
  allNext_raiseIf (L.trap _) (allNext_accessTrap L _ _ _ _ (allNext_writeReg L _ _))

theorem allNext_loadWord (asi : Asi) (ea : Word) (rd : Reg) : AllNext P (loadWord s asi ea rd) :=
  allNext_raiseIf (L.trap _) (allNext_accessTrap L _ _ _ _ (allNext_writeReg L _ _))

theorem allNext_loadDouble (asi : Asi) (ea : Word) (rd : Reg) : AllNext P (loadDouble s asi ea rd) := by
  refine allNext_raiseIf (L.trap _) (allNext_raiseIf (L.trap _) (allNext_access (fun f => ?_) (allNext_next.mpr (L.pair _ _ _ _))))
  split
  · exact L.trapReg _ _ _
  · exact L.trap _

theorem allNext_coprocessorAccess (n : Nat) (ea : Word) : AllNext P (coprocessorAccess s n ea) := allNext_needCp L _

theorem allNext_fpRegister (hf : s.efRead = true) (fmt : FpFormat) (rd : Reg) {k : Result} (hk : AllNext P k) :
    AllNext P (fpRegister fmt rd s k) := allNext_ite (L.trapFsr hf _ _ rfl) hk

theorem allNext_storeByte {ea : Word} (h : storeRange i s = some (ea, 1)) (asi : Asi) (rd : Reg) :
    AllNext P (storeByte s asi ea rd) := allNext_accessTrap L _ _ _ _ (allNext_next.mpr (L.store ea 1 _ h (by simp)))

theorem allNext_storeHalf {ea : Word} (h : storeRange i s = some (ea, 2)) (asi : Asi) (rd : Reg) :
    AllNext P (storeHalf s asi ea rd) :=
  allNext_raiseIf (L.trap _) (allNext_accessTrap L _ _ _ _ (allNext_next.mpr (L.store ea 2 _ h (by simp [halfBytes]))))

theorem allNext_storeWord {ea : Word} (h : storeRange i s = some (ea, 4)) (asi : Asi) (v : Word) :
    AllNext P (storeWord s asi ea v) :=
  allNext_raiseIf (L.trap _) (allNext_accessTrap L _ _ _ _ (allNext_next.mpr (L.store ea 4 _ h (by simp [wordBytes]))))

theorem allNext_storePair {ea : Word} (h : storeRange i s = some (ea, 8)) (asi : Asi) (hi lo : Word) :
    AllNext P (storePair s asi ea hi lo) := by
  refine allNext_access (fun f => ?_) (allNext_next.mpr (L.store ea 8 _ h (by simp [wordBytes])))
  split
  · exact L.trapStore _ ea 8 _ h (by simp [wordBytes])
  · exact L.trap _

theorem allNext_storeDouble {ea : Word} (h : storeRange i s = some (ea, 8)) (asi : Asi) (rd : Reg) :
    AllNext P (storeDouble s asi ea rd) := allNext_raiseIf (L.trap _) (allNext_raiseIf (L.trap _) (allNext_storePair L h _ _ _))

theorem allNext_atomicAccess (asi : Asi) (ea : Word) (n : Nat) (rd : Reg) (v : Word) {k : Result} (hk : AllNext P k) :
    AllNext P (atomicAccess s asi ea n rd v k) := by
  have hs : ∀ f, AllNext P (raise (dataTrap f) (if Config.drawFirstHalf s.freeCount then s.setR rd v else s)) := by
    intro f
    split
    · exact L.trapReg _ _ _
    · exact L.trap _
  exact allNext_access (fun f => allNext_ite (hs f) (L.trap _)) (allNext_access hs hk)

theorem allNext_loadStoreByte {ea : Word} (h : storeRange i s = some (ea, 1)) (asi : Asi) (rd : Reg) :
    AllNext P (loadStoreByte s asi ea rd) :=
  allNext_atomicAccess L _ _ _ _ _ (allNext_next.mpr (L.storeReg ea 1 _ _ _ h (by simp)))

theorem allNext_swapWord {ea : Word} (h : storeRange i s = some (ea, 4)) (asi : Asi) (rd : Reg) :
    AllNext P (swapWord s asi ea rd) :=
  allNext_raiseIf (L.trap _) (allNext_atomicAccess L _ _ _ _ _ (allNext_next.mpr (L.storeReg ea 4 _ _ _ h (by simp [wordBytes]))))

theorem allNext_fpComplete (hf : s.efRead = true) (exc : FpExc) (done : State → Result)
    (hk : AllNext P (done { s with fsr := s.fsr.completed exc })) : AllNext P (fpComplete s exc done) :=
  allNext_ite (L.trapFsr hf _ _ rfl) hk

theorem allNext_fpChecks (opf : BitVec 9) (m : Bool) {k : Result} (hk : s.efRead = true → AllNext P k) :
    AllNext P (fpChecks s opf m k) :=
  allNext_fpu (L.trap _) (fun hf => allNext_ite (L.trapFsr hf _ _ rfl) (allNext_ite (L.trapFsr hf _ _ rfl) (hk hf)))

theorem allNext_fpUnary (opf : BitVec 9) (fmt dst : FpFormat) (rd rs2 : Reg) (allowed : FpExc) (f : NanSource → FpResult) :
    AllNext P (fpUnary s opf fmt dst rd rs2 allowed f) :=
  allNext_fpChecks L _ _ (fun hf => allNext_fpComplete L hf _ _ (allNext_next.mpr (L.fpop hf _ _ _ _)))

theorem allNext_fpBinary (opf : BitVec 9) (fmt dst : FpFormat) (rd rs1 rs2 : Reg) (allowed : FpExc) (f : NanSource → FpResult) :
    AllNext P (fpBinary s opf fmt dst rd rs1 rs2 allowed f) :=
  allNext_fpChecks L _ _ (fun hf => allNext_fpComplete L hf _ _ (allNext_next.mpr (L.fpop hf _ _ _ _)))

theorem allNext_fpCompareOp (hc : isCompare i = true) (opf : BitVec 9) (fmt : FpFormat) (rs1 rs2 : Reg) (q : Bool) :
    AllNext P (fpCompareOp s opf fmt rs1 rs2 q) :=
  allNext_fpChecks L _ _ (fun hf => allNext_fpComplete L hf _ _ (allNext_next.mpr (L.compare hf hc _ _)))

theorem allNext_faulted (t : Trap) (set : State → State) (hs : AllNext P (raise t (set s))) :
    AllNext P (raise t (s.faultedLoad set)) := by
  unfold State.faultedLoad
  split
  · exact hs
  · exact L.trap _

theorem allNext_rett (rs1 : Reg) (o : RegOrImm) : AllNext P (execRett rs1 o s) := by
  unfold execRett
  by_cases he : s.etRead = true
  · rw [if_pos he]
    exact allNext_raiseFromRett (L.trap _) (fun ht => L.rettError (.inr ht) _)
  rw [if_neg he]
  have he' : s.etRead = false := by simpa using he
  by_cases hs : s.sRead = true
  · simp only [hs, Bool.not_true, Bool.false_eq_true, if_false]
    refine allNext_ite (allNext_next.mpr (L.rettError (.inl he') _)) ?_
    cases hm : misaligned 4 (s.ea rs1 o)
    · exact allNext_next.mpr (L.rett he' hs _ _ _ (Nat.mod_lt _ (by decide)) hm)
    · exact allNext_next.mpr (L.rettError (.inl he') _)
  · simp only [hs, Bool.not_false, if_true]
    exact allNext_next.mpr (L.rettError (.inl he') _)

omit L

/-- A property of every shape of next state holds of every next state of an instruction. -/
theorem exec_allNext (i : Instr) (s : State) (P : State → Prop) (L : Leaves i s P) : AllNext P (exec i s) := by
  cases i with
  | ldsb _ _ _ => exact allNext_loadByte L _ _ _ _
  | ldsh _ _ _ => exact allNext_loadHalf L _ _ _ _
  | ldub _ _ _ => exact allNext_loadByte L _ _ _ _
  | lduh _ _ _ => exact allNext_loadHalf L _ _ _ _
  | ld _ _ _ => exact allNext_loadWord L _ _ _
  | ldd _ _ _ => exact allNext_loadDouble L _ _ _
  | ldsba _ _ _ _ _ => exact allNext_alternate L _ (allNext_loadByte L _ _ _ _)
  | ldsha _ _ _ _ _ => exact allNext_alternate L _ (allNext_loadHalf L _ _ _ _)
  | lduba _ _ _ _ _ => exact allNext_alternate L _ (allNext_loadByte L _ _ _ _)
  | lduha _ _ _ _ _ => exact allNext_alternate L _ (allNext_loadHalf L _ _ _ _)
  | lda _ _ _ _ _ => exact allNext_alternate L _ (allNext_loadWord L _ _ _)
  | ldda _ _ _ _ _ => exact allNext_alternate L _ (allNext_loadDouble L _ _ _)
  | ldf _ _ _ => exact allNext_fpu (L.trap _) (fun hf => allNext_raiseIf (L.trap _)
      (allNext_access (fun _ => allNext_faulted L _ _ (L.trapF hf _ _ _)) (allNext_next.mpr (L.loadF hf _ _))))
  | lddf _ _ _ => exact allNext_fpu (L.trap _) (fun hf => allNext_raiseIf (L.trap _) (allNext_fpRegister L hf _ _
      (allNext_access (fun _ => allNext_faulted L _ _ (L.trapFD hf _ _ _)) (allNext_next.mpr (L.loadFD hf _ _)))))
  | ldfsr _ _ _ => exact allNext_fpu (L.trap _) (fun hf => allNext_raiseIf (L.trap _) (allNext_accessTrap L _ _ _ _ (by
      rw [reserved_ignored]; exact allNext_next.mpr (L.loadFsr hf _ _ _ _ rfl))))
  | ldc rd rs1 o =>
    show AllNext P (execLdc rd rs1 o s)
    exact allNext_coprocessorAccess L _ _
  | lddc rd rs1 o =>
    show AllNext P (execLddc rd rs1 o s)
    exact allNext_coprocessorAccess L _ _
  | ldcsr rd rs1 o =>
    show AllNext P (execLdcsr rd rs1 o s)
    exact allNext_coprocessorAccess L _ _
  | stb _ _ _ => exact allNext_storeByte L rfl _ _
  | sth _ _ _ => exact allNext_storeHalf L rfl _ _
  | st _ _ _ => exact allNext_storeWord L rfl _ _
  | std _ _ _ => exact allNext_storeDouble L rfl _ _
  | stba _ _ _ _ _ => exact allNext_alternate L _ (allNext_storeByte L rfl _ _)
  | stha _ _ _ _ _ => exact allNext_alternate L _ (allNext_storeHalf L rfl _ _)
  | sta _ _ _ _ _ => exact allNext_alternate L _ (allNext_storeWord L rfl _ _)
  | stda _ _ _ _ _ => exact allNext_alternate L _ (allNext_storeDouble L rfl _ _)
  | stf _ _ _ => exact allNext_needFpu (L.trap _) (allNext_storeWord L rfl _ _)
  | stdf _ _ _ => exact allNext_fpu (L.trap _) (fun hf => allNext_raiseIf (L.trap _) (allNext_fpRegister L hf _ _ (allNext_storePair L rfl _ _ _)))
  | stfsr _ _ _ => exact allNext_needFpu (L.trap _) (allNext_raiseIf (L.trap _) (allNext_accessTrap L _ _ _ _
      (allNext_next.mpr (L.store _ 4 _ rfl (by simp [wordBytes])))))
  | stdfq _ _ _ => exact allNext_needSupervisor (L.trap _) (allNext_fpu (L.trap _) (fun hf => allNext_raiseIf (L.trap _)
      (allNext_ite (by simp) (L.trapFsr hf _ _ rfl))))
  | stc rd rs1 o =>
    show AllNext P (execStc rd rs1 o s)
    exact allNext_coprocessorAccess L _ _
  | stdc rd rs1 o =>
    show AllNext P (execStdc rd rs1 o s)
    exact allNext_coprocessorAccess L _ _
  | stcsr rd rs1 o =>
    show AllNext P (execStcsr rd rs1 o s)
    exact allNext_coprocessorAccess L _ _
  | stdcq _ _ _ => exact allNext_needSupervisor (L.trap _) (allNext_needCp L _)
  | ldstub _ _ _ => exact allNext_loadStoreByte L rfl _ _
  | ldstuba _ _ _ _ _ => exact allNext_alternate L _ (allNext_loadStoreByte L rfl _ _)
  | swap _ _ _ => exact allNext_swapWord L rfl _ _
  | swapa _ _ _ _ _ => exact allNext_alternate L _ (allNext_swapWord L rfl _ _)
  | nop => exact allNext_finish L
  | sethi _ _ => exact allNext_writeReg L _ _
  | and _ _ _ => exact allNext_writeReg L _ _
  | andcc _ _ _ => exact allNext_writeRegCc L _ _ _
  | andn _ _ _ => exact allNext_writeReg L _ _
  | andncc _ _ _ => exact allNext_writeRegCc L _ _ _
  | or _ _ _ => exact allNext_writeReg L _ _
  | orcc _ _ _ => exact allNext_writeRegCc L _ _ _
  | orn _ _ _ => exact allNext_writeReg L _ _
  | orncc _ _ _ => exact allNext_writeRegCc L _ _ _
  | xor _ _ _ => exact allNext_writeReg L _ _
  | xorcc _ _ _ => exact allNext_writeRegCc L _ _ _
  | xnor _ _ _ => exact allNext_writeReg L _ _
  | xnorcc _ _ _ => exact allNext_writeRegCc L _ _ _
  | sll _ _ _ => exact allNext_writeReg L _ _
  | srl _ _ _ => exact allNext_writeReg L _ _
  | sra _ _ _ => exact allNext_writeReg L _ _
  | add _ _ _ => exact allNext_writeReg L _ _
  | addcc _ _ _ => exact allNext_writeRegCc L _ _ _
  | addx _ _ _ => exact allNext_writeReg L _ _
  | addxcc _ _ _ => exact allNext_writeRegCc L _ _ _
  | taddcc _ _ _ => exact allNext_writeRegCc L _ _ _
  | taddcctv _ _ _ => exact allNext_raiseIf (L.trap _) (allNext_writeRegCc L _ _ _)
  | sub _ _ _ => exact allNext_writeReg L _ _
  | subcc _ _ _ => exact allNext_writeRegCc L _ _ _
  | subx _ _ _ => exact allNext_writeReg L _ _
  | subxcc _ _ _ => exact allNext_writeRegCc L _ _ _
  | tsubcc _ _ _ => exact allNext_writeRegCc L _ _ _
  | tsubcctv _ _ _ => exact allNext_raiseIf (L.trap _) (allNext_writeRegCc L _ _ _)
  | mulscc _ _ _ => exact allNext_mulStep L _ _ _
  | umul _ _ _ => exact allNext_writeProduct L _ _
  | smul _ _ _ => exact allNext_writeProduct L _ _
  | umulcc _ _ _ => exact allNext_writeProductCc L _ _
  | smulcc _ _ _ => exact allNext_writeProductCc L _ _
  | udiv _ _ _ => exact allNext_divide L _ _ _ _
  | sdiv _ _ _ => exact allNext_divide L _ _ _ _
  | udivcc _ _ _ => exact allNext_divide L _ _ _ _
  | sdivcc _ _ _ => exact allNext_divide L _ _ _ _
  | save _ _ _ => exact allNext_changeWindow L (Nat.mod_lt _ (by decide)) _ _ _
  | restore _ _ _ => exact allNext_changeWindow L (Nat.mod_lt _ (by decide)) _ _ _
  | ba _ _ => exact allNext_branch L _ _ _ _ (.inl rfl)
  | bn _ _ => exact allNext_branch L _ _ _ _ (.inl rfl)
  | bne _ _ => exact allNext_branch L _ _ _ _ (.inr rfl)
  | be _ _ => exact allNext_branch L _ _ _ _ (.inr rfl)
  | bg _ _ => exact allNext_branch L _ _ _ _ (.inr rfl)
  | ble _ _ => exact allNext_branch L _ _ _ _ (.inr rfl)
  | bge _ _ => exact allNext_branch L _ _ _ _ (.inr rfl)
  | bl _ _ => exact allNext_branch L _ _ _ _ (.inr rfl)
  | bgu _ _ => exact allNext_branch L _ _ _ _ (.inr rfl)
  | bleu _ _ => exact allNext_branch L _ _ _ _ (.inr rfl)
  | bcc _ _ => exact allNext_branch L _ _ _ _ (.inr rfl)
  | bcs _ _ => exact allNext_branch L _ _ _ _ (.inr rfl)
  | bpos _ _ => exact allNext_branch L _ _ _ _ (.inr rfl)
  | bneg _ _ => exact allNext_branch L _ _ _ _ (.inr rfl)
  | bvc _ _ => exact allNext_branch L _ _ _ _ (.inr rfl)
  | bvs _ _ => exact allNext_branch L _ _ _ _ (.inr rfl)
  | fba _ _ => exact allNext_fpBranch L _ _ _ _ (.inl rfl)
  | fbn _ _ => exact allNext_fpBranch L _ _ _ _ (.inl rfl)
  | fbu _ _ => exact allNext_fpBranch L _ _ _ _ (.inr rfl)
  | fbg _ _ => exact allNext_fpBranch L _ _ _ _ (.inr rfl)
  | fbug _ _ => exact allNext_fpBranch L _ _ _ _ (.inr rfl)
  | fbl _ _ => exact allNext_fpBranch L _ _ _ _ (.inr rfl)
  | fbul _ _ => exact allNext_fpBranch L _ _ _ _ (.inr rfl)
  | fblg _ _ => exact allNext_fpBranch L _ _ _ _ (.inr rfl)
  | fbne _ _ => exact allNext_fpBranch L _ _ _ _ (.inr rfl)
  | fbe _ _ => exact allNext_fpBranch L _ _ _ _ (.inr rfl)
  | fbue _ _ => exact allNext_fpBranch L _ _ _ _ (.inr rfl)
  | fbge _ _ => exact allNext_fpBranch L _ _ _ _ (.inr rfl)
  | fbuge _ _ => exact allNext_fpBranch L _ _ _ _ (.inr rfl)
  | fble _ _ => exact allNext_fpBranch L _ _ _ _ (.inr rfl)
  | fbule _ _ => exact allNext_fpBranch L _ _ _ _ (.inr rfl)
  | fbo _ _ => exact allNext_fpBranch L _ _ _ _ (.inr rfl)
  | cba a disp22 =>
    show AllNext P (execCba a disp22 s)
    exact allNext_cpBranch L _ _ _ _
  | cbn a disp22 =>
    show AllNext P (execCbn a disp22 s)
    exact allNext_cpBranch L _ _ _ _
  | cb3 a disp22 =>
    show AllNext P (execCb3 a disp22 s)
    exact allNext_cpBranch L _ _ _ _
  | cb2 a disp22 =>
    show AllNext P (execCb2 a disp22 s)
    exact allNext_cpBranch L _ _ _ _
  | cb23 a disp22 =>
    show AllNext P (execCb23 a disp22 s)
    exact allNext_cpBranch L _ _ _ _
  | cb1 a disp22 =>
    show AllNext P (execCb1 a disp22 s)
    exact allNext_cpBranch L _ _ _ _
  | cb13 a disp22 =>
    show AllNext P (execCb13 a disp22 s)
    exact allNext_cpBranch L _ _ _ _
  | cb12 a disp22 =>
    show AllNext P (execCb12 a disp22 s)
    exact allNext_cpBranch L _ _ _ _
  | cb123 a disp22 =>
    show AllNext P (execCb123 a disp22 s)
    exact allNext_cpBranch L _ _ _ _
  | cb0 a disp22 =>
    show AllNext P (execCb0 a disp22 s)
    exact allNext_cpBranch L _ _ _ _
  | cb03 a disp22 =>
    show AllNext P (execCb03 a disp22 s)
    exact allNext_cpBranch L _ _ _ _
  | cb02 a disp22 =>
    show AllNext P (execCb02 a disp22 s)
    exact allNext_cpBranch L _ _ _ _
  | cb023 a disp22 =>
    show AllNext P (execCb023 a disp22 s)
    exact allNext_cpBranch L _ _ _ _
  | cb01 a disp22 =>
    show AllNext P (execCb01 a disp22 s)
    exact allNext_cpBranch L _ _ _ _
  | cb013 a disp22 =>
    show AllNext P (execCb013 a disp22 s)
    exact allNext_cpBranch L _ _ _ _
  | cb012 a disp22 =>
    show AllNext P (execCb012 a disp22 s)
    exact allNext_cpBranch L _ _ _ _
  | call _ => exact allNext_next.mpr (L.call _)
  | jmpl _ _ _ => exact allNext_aligned (L.trap _) (fun hm => allNext_next.mpr (L.jmpl rfl _ _ hm))
  | rett _ _ => exact allNext_rett L _ _
  | ta rs1 o =>
    exact allNext_ticc L true rs1 o
  | tn rs1 o =>
    exact allNext_ticc L false rs1 o
  | tne _ _ => exact allNext_ticc L _ _ _
  | te _ _ => exact allNext_ticc L _ _ _
  | tg _ _ => exact allNext_ticc L _ _ _
  | tle _ _ => exact allNext_ticc L _ _ _
  | tge _ _ => exact allNext_ticc L _ _ _
  | tl _ _ => exact allNext_ticc L _ _ _
  | tgu _ _ => exact allNext_ticc L _ _ _
  | tleu _ _ => exact allNext_ticc L _ _ _
  | tcc _ _ => exact allNext_ticc L _ _ _
  | tcs _ _ => exact allNext_ticc L _ _ _
  | tpos _ _ => exact allNext_ticc L _ _ _
  | tneg _ _ => exact allNext_ticc L _ _ _
  | tvc _ _ => exact allNext_ticc L _ _ _
  | tvs _ _ => exact allNext_ticc L _ _ _
  | rdy _ => exact allNext_writeReg L _ _
  | stbar => exact allNext_finish L
  | rdasr _ _ => exact allNext_ite (allNext_writeReg L _ _) (allNext_ite (by simp) (allNext_ite (by simp) (L.trap _)))
  | rdpsr _ => exact allNext_needSupervisor (L.trap _) (allNext_writeReg L _ _)
  | rdwim _ => exact allNext_needSupervisor (L.trap _) (allNext_writeReg L _ _)
  | rdtbr _ => exact allNext_needSupervisor (L.trap _) (allNext_writeReg L _ _)
  | wry _ _ => exact allNext_next.mpr (L.writeY _ _ _ rfl)
  | wrasr _ _ _ => exact allNext_ite (by simp) (allNext_ite (by simp) (L.trap _))
  | wrpsr rs1 o =>
    refine allNext_supervisor (L.trap _) (fun hs => ?_)
    rw [reserved_ignored]
    cases hc : decide (Config.nwindows ≤ ((s.r rs1 ^^^ s.op2 o).extractLsb' 0 5).toNat)
    · exact allNext_next.mpr (L.writePsr hs _ _ _ rfl (Nat.not_le.mp (of_decide_eq_false hc)))
    · exact L.trap _
  | wrwim _ _ => exact allNext_supervisor (L.trap _) (fun hs => allNext_next.mpr (L.writeWim hs _ _ _ rfl))
  | wrtbr _ _ => exact allNext_supervisor (L.trap _) (fun hs => by
      rw [reserved_ignored]; exact allNext_next.mpr (L.writeTbr hs _ _ _ rfl))
  | unimp _ => exact L.trap _
  | flush _ _ =>
    show AllNext P (reserved _ _)
    rw [reserved_ignored]; exact allNext_next.mpr (L.flush _ _ rfl _)
  | fitos rd rs2 =>
    show AllNext P (execFitos rd rs2 s)
    exact allNext_fpUnary L _ _ _ _ _ _ _
  | fitod rd rs2 =>
    show AllNext P (execFitod rd rs2 s)
    exact allNext_fpUnary L _ _ _ _ _ _ _
  | fitoq rd rs2 =>
    show AllNext P (execFitoq rd rs2 s)
    exact allNext_fpUnary L _ _ _ _ _ _ _
  | fstoi rd rs2 =>
    show AllNext P (execFstoi rd rs2 s)
    exact allNext_fpUnary L _ _ _ _ _ _ _
  | fdtoi rd rs2 =>
    show AllNext P (execFdtoi rd rs2 s)
    exact allNext_fpUnary L _ _ _ _ _ _ _
  | fqtoi rd rs2 =>
    show AllNext P (execFqtoi rd rs2 s)
    exact allNext_fpUnary L _ _ _ _ _ _ _
  | fstod rd rs2 =>
    show AllNext P (execFstod rd rs2 s)
    exact allNext_fpUnary L _ _ _ _ _ _ _
  | fstoq rd rs2 =>
    show AllNext P (execFstoq rd rs2 s)
    exact allNext_fpUnary L _ _ _ _ _ _ _
  | fdtos rd rs2 =>
    show AllNext P (execFdtos rd rs2 s)
    exact allNext_fpUnary L _ _ _ _ _ _ _
  | fdtoq rd rs2 =>
    show AllNext P (execFdtoq rd rs2 s)
    exact allNext_fpUnary L _ _ _ _ _ _ _
  | fqtos rd rs2 =>
    show AllNext P (execFqtos rd rs2 s)
    exact allNext_fpUnary L _ _ _ _ _ _ _
  | fqtod rd rs2 =>
    show AllNext P (execFqtod rd rs2 s)
    exact allNext_fpUnary L _ _ _ _ _ _ _
  | fmovs rd rs2 =>
    show AllNext P (execFmovs rd rs2 s)
    exact allNext_fpUnary L _ _ _ _ _ _ _
  | fnegs rd rs2 =>
    show AllNext P (execFnegs rd rs2 s)
    exact allNext_fpUnary L _ _ _ _ _ _ _
  | fabss rd rs2 =>
    show AllNext P (execFabss rd rs2 s)
    exact allNext_fpUnary L _ _ _ _ _ _ _
  | fsqrts rd rs2 =>
    show AllNext P (execFsqrts rd rs2 s)
    exact allNext_fpUnary L _ _ _ _ _ _ _
  | fsqrtd rd rs2 =>
    show AllNext P (execFsqrtd rd rs2 s)
    exact allNext_fpUnary L _ _ _ _ _ _ _
  | fsqrtq rd rs2 =>
    show AllNext P (execFsqrtq rd rs2 s)
    exact allNext_fpUnary L _ _ _ _ _ _ _
  | fadds rd rs1 rs2 =>
    show AllNext P (execFadds rd rs1 rs2 s)
    exact allNext_fpBinary L _ _ _ _ _ _ _ _
  | faddd rd rs1 rs2 =>
    show AllNext P (execFaddd rd rs1 rs2 s)
    exact allNext_fpBinary L _ _ _ _ _ _ _ _
  | faddq rd rs1 rs2 =>
    show AllNext P (execFaddq rd rs1 rs2 s)
    exact allNext_fpBinary L _ _ _ _ _ _ _ _
  | fsubs rd rs1 rs2 =>
    show AllNext P (execFsubs rd rs1 rs2 s)
    exact allNext_fpBinary L _ _ _ _ _ _ _ _
  | fsubd rd rs1 rs2 =>
    show AllNext P (execFsubd rd rs1 rs2 s)
    exact allNext_fpBinary L _ _ _ _ _ _ _ _
  | fsubq rd rs1 rs2 =>
    show AllNext P (execFsubq rd rs1 rs2 s)
    exact allNext_fpBinary L _ _ _ _ _ _ _ _
  | fmuls rd rs1 rs2 =>
    show AllNext P (execFmuls rd rs1 rs2 s)
    exact allNext_fpBinary L _ _ _ _ _ _ _ _
  | fmuld rd rs1 rs2 =>
    show AllNext P (execFmuld rd rs1 rs2 s)
    exact allNext_fpBinary L _ _ _ _ _ _ _ _
  | fmulq rd rs1 rs2 =>
    show AllNext P (execFmulq rd rs1 rs2 s)
    exact allNext_fpBinary L _ _ _ _ _ _ _ _
  | fsmuld rd rs1 rs2 =>
    show AllNext P (execFsmuld rd rs1 rs2 s)
    exact allNext_fpBinary L _ _ _ _ _ _ _ _
  | fdmulq rd rs1 rs2 =>
    show AllNext P (execFdmulq rd rs1 rs2 s)
    exact allNext_fpBinary L _ _ _ _ _ _ _ _
  | fdivs rd rs1 rs2 =>
    show AllNext P (execFdivs rd rs1 rs2 s)
    exact allNext_fpBinary L _ _ _ _ _ _ _ _
  | fdivd rd rs1 rs2 =>
    show AllNext P (execFdivd rd rs1 rs2 s)
    exact allNext_fpBinary L _ _ _ _ _ _ _ _
  | fdivq rd rs1 rs2 =>
    show AllNext P (execFdivq rd rs1 rs2 s)
    exact allNext_fpBinary L _ _ _ _ _ _ _ _
  | fcmps rs1 rs2 =>
    show AllNext P (execFcmps rs1 rs2 s)
    exact allNext_fpCompareOp L rfl _ _ _ _ _
  | fcmpd rs1 rs2 =>
    show AllNext P (execFcmpd rs1 rs2 s)
    exact allNext_fpCompareOp L rfl _ _ _ _ _
  | fcmpq rs1 rs2 =>
    show AllNext P (execFcmpq rs1 rs2 s)
    exact allNext_fpCompareOp L rfl _ _ _ _ _
  | fcmpes rs1 rs2 =>
    show AllNext P (execFcmpes rs1 rs2 s)
    exact allNext_fpCompareOp L rfl _ _ _ _ _
  | fcmped rs1 rs2 =>
    show AllNext P (execFcmped rs1 rs2 s)
    exact allNext_fpCompareOp L rfl _ _ _ _ _
  | fcmpeq rs1 rs2 =>
    show AllNext P (execFcmpeq rs1 rs2 s)
    exact allNext_fpCompareOp L rfl _ _ _ _ _
  | cpop1 rd rs1 opc rs2 =>
    show AllNext P (execCpop1 rd rs1 opc rs2 s)
    exact allNext_needCp L _
  | cpop2 rd rs1 opc rs2 =>
    show AllNext P (execCpop2 rd rs1 opc rs2 s)
    exact allNext_needCp L _

end Sys2Proof.Machine
end

