-- ==== Sys2Proof/Laws/PerInstr.lean ====
section
/-! SUPPORT. The family `Encoding`: decoding the encoding of a well-formed instruction gives it back, one lemma per constructor. -/

set_option Elab.async false

namespace Sys2Proof.Laws.Encoding

/-- Decoding the word of a well-formed instruction gives the instruction (R150 to R157). -/
def Statement (i : Instr) : Prop := i.wf = true → decodeWord (encode i) = .ok i

/-- A branch word carries its condition and its annul bit. -/
theorem branch_ok (t : BitVec 4 → Bool → BitVec 22 → Instr) {cond : BitVec 4} {a : Bool} {d : BitVec 22} {i : Instr}
    (h : t cond a d = i) : Except.ok (ε := Reject) (t (condField (annulCond a cond)) (annulBit (annulCond a cond)) d) = .ok i := by
  rw [condField_annulCond, annulBit_annulCond, h]

/-- A register or immediate form carries its operand. -/
theorem operand_ok (f : RegOrImm → Instr) {o : RegOrImm} :
    Except.ok (ε := Reject) (f (regOrImm (lowRegOrImm o))) = .ok (f o) := by rw [regOrImm_lowRegOrImm]

/-- A shift carries its operand. -/
theorem shift_ok (f : ShiftOperand → Instr) {o : ShiftOperand} :
    Except.ok (ε := Reject) (f (shiftOperand (lowShift o))) = .ok (f o) := by rw [shiftOperand_lowShift]

/-- A Ticc word carries its condition and its operand. -/
theorem ticc_ok {cond : BitVec 4} {rs1 : Reg} {o : TrapOperand} {i : Instr} (h : decodeTicc cond rs1 o = i) :
    Except.ok (ε := Reject) (decodeTicc (condField (annulCond false cond)) rs1 (trapOperand (lowTrap o))) = .ok i := by
  rw [condField_annulCond, trapOperand_lowTrap, h]

/-- An alternate-space word carries i, asi and rs2. -/
theorem alt_ok (f : Bool → Asi → Reg → Instr) {i : Bool} {asi : Asi} {rs2 : Reg} :
    Except.ok (ε := Reject) (f (iBit (lowAsi i asi rs2)) (asiField (lowAsi i asi rs2)) (rs2Field (lowAsi i asi rs2))) =
      .ok (f i asi rs2) := by
  rw [iBit_lowAsi, asiField_lowAsi, rs2Field_lowAsi]

/-- An operate word carries opf and rs2. -/
theorem opf_ok (f : BitVec 9 → Reg → Except Reject Instr) {opf : BitVec 9} {rs2 : Reg} :
    f (opfField (lowOpf opf rs2)) (rs2Field (lowOpf opf rs2)) = f opf rs2 := by
  rw [opfField_lowOpf, rs2Field_lowOpf]

theorem ldsb (rd rs1 : Reg) (o : RegOrImm) : Statement (.ldsb rd rs1 o) := fun _ => (decodeWord_mem ..).trans (operand_ok (.ldsb rd rs1))
theorem ldsh (rd rs1 : Reg) (o : RegOrImm) : Statement (.ldsh rd rs1 o) := fun _ => (decodeWord_mem ..).trans (operand_ok (.ldsh rd rs1))
theorem ldub (rd rs1 : Reg) (o : RegOrImm) : Statement (.ldub rd rs1 o) := fun _ => (decodeWord_mem ..).trans (operand_ok (.ldub rd rs1))
theorem lduh (rd rs1 : Reg) (o : RegOrImm) : Statement (.lduh rd rs1 o) := fun _ => (decodeWord_mem ..).trans (operand_ok (.lduh rd rs1))
theorem ld (rd rs1 : Reg) (o : RegOrImm) : Statement (.ld rd rs1 o) := fun _ => (decodeWord_mem ..).trans (operand_ok (.ld rd rs1))
theorem ldd (rd rs1 : Reg) (o : RegOrImm) : Statement (.ldd rd rs1 o) := fun _ => (decodeWord_mem ..).trans (operand_ok (.ldd rd rs1))
theorem ldsba (rd rs1 : Reg) (i : Bool) (asi : Asi) (rs2 : Reg) : Statement (.ldsba rd rs1 i asi rs2) := fun _ => (decodeWord_mem ..).trans (alt_ok (.ldsba rd rs1))
theorem ldsha (rd rs1 : Reg) (i : Bool) (asi : Asi) (rs2 : Reg) : Statement (.ldsha rd rs1 i asi rs2) := fun _ => (decodeWord_mem ..).trans (alt_ok (.ldsha rd rs1))
theorem lduba (rd rs1 : Reg) (i : Bool) (asi : Asi) (rs2 : Reg) : Statement (.lduba rd rs1 i asi rs2) := fun _ => (decodeWord_mem ..).trans (alt_ok (.lduba rd rs1))
theorem lduha (rd rs1 : Reg) (i : Bool) (asi : Asi) (rs2 : Reg) : Statement (.lduha rd rs1 i asi rs2) := fun _ => (decodeWord_mem ..).trans (alt_ok (.lduha rd rs1))
theorem lda (rd rs1 : Reg) (i : Bool) (asi : Asi) (rs2 : Reg) : Statement (.lda rd rs1 i asi rs2) := fun _ => (decodeWord_mem ..).trans (alt_ok (.lda rd rs1))
theorem ldda (rd rs1 : Reg) (i : Bool) (asi : Asi) (rs2 : Reg) : Statement (.ldda rd rs1 i asi rs2) := fun _ => (decodeWord_mem ..).trans (alt_ok (.ldda rd rs1))
theorem ldf (rd rs1 : Reg) (o : RegOrImm) : Statement (.ldf rd rs1 o) := fun _ => (decodeWord_mem ..).trans (operand_ok (.ldf rd rs1))
theorem lddf (rd rs1 : Reg) (o : RegOrImm) : Statement (.lddf rd rs1 o) := fun _ => (decodeWord_mem ..).trans (operand_ok (.lddf rd rs1))
theorem ldfsr (rd rs1 : Reg) (o : RegOrImm) : Statement (.ldfsr rd rs1 o) := fun _ => (decodeWord_mem ..).trans (operand_ok (.ldfsr rd rs1))
theorem ldc (rd rs1 : Reg) (o : RegOrImm) : Statement (.ldc rd rs1 o) := fun _ => (decodeWord_mem ..).trans (operand_ok (.ldc rd rs1))
theorem lddc (rd rs1 : Reg) (o : RegOrImm) : Statement (.lddc rd rs1 o) := fun _ => (decodeWord_mem ..).trans (operand_ok (.lddc rd rs1))
theorem ldcsr (rd rs1 : Reg) (o : RegOrImm) : Statement (.ldcsr rd rs1 o) := fun _ => (decodeWord_mem ..).trans (operand_ok (.ldcsr rd rs1))
theorem stb (rd rs1 : Reg) (o : RegOrImm) : Statement (.stb rd rs1 o) := fun _ => (decodeWord_mem ..).trans (operand_ok (.stb rd rs1))
theorem sth (rd rs1 : Reg) (o : RegOrImm) : Statement (.sth rd rs1 o) := fun _ => (decodeWord_mem ..).trans (operand_ok (.sth rd rs1))
theorem st (rd rs1 : Reg) (o : RegOrImm) : Statement (.st rd rs1 o) := fun _ => (decodeWord_mem ..).trans (operand_ok (.st rd rs1))
theorem std (rd rs1 : Reg) (o : RegOrImm) : Statement (.std rd rs1 o) := fun _ => (decodeWord_mem ..).trans (operand_ok (.std rd rs1))
theorem stba (rd rs1 : Reg) (i : Bool) (asi : Asi) (rs2 : Reg) : Statement (.stba rd rs1 i asi rs2) := fun _ => (decodeWord_mem ..).trans (alt_ok (.stba rd rs1))
theorem stha (rd rs1 : Reg) (i : Bool) (asi : Asi) (rs2 : Reg) : Statement (.stha rd rs1 i asi rs2) := fun _ => (decodeWord_mem ..).trans (alt_ok (.stha rd rs1))
theorem sta (rd rs1 : Reg) (i : Bool) (asi : Asi) (rs2 : Reg) : Statement (.sta rd rs1 i asi rs2) := fun _ => (decodeWord_mem ..).trans (alt_ok (.sta rd rs1))
theorem stda (rd rs1 : Reg) (i : Bool) (asi : Asi) (rs2 : Reg) : Statement (.stda rd rs1 i asi rs2) := fun _ => (decodeWord_mem ..).trans (alt_ok (.stda rd rs1))
theorem stf (rd rs1 : Reg) (o : RegOrImm) : Statement (.stf rd rs1 o) := fun _ => (decodeWord_mem ..).trans (operand_ok (.stf rd rs1))
theorem stdf (rd rs1 : Reg) (o : RegOrImm) : Statement (.stdf rd rs1 o) := fun _ => (decodeWord_mem ..).trans (operand_ok (.stdf rd rs1))
theorem stfsr (rd rs1 : Reg) (o : RegOrImm) : Statement (.stfsr rd rs1 o) := fun _ => (decodeWord_mem ..).trans (operand_ok (.stfsr rd rs1))
theorem stdfq (rd rs1 : Reg) (o : RegOrImm) : Statement (.stdfq rd rs1 o) := fun _ => (decodeWord_mem ..).trans (operand_ok (.stdfq rd rs1))
theorem stc (rd rs1 : Reg) (o : RegOrImm) : Statement (.stc rd rs1 o) := fun _ => (decodeWord_mem ..).trans (operand_ok (.stc rd rs1))
theorem stdc (rd rs1 : Reg) (o : RegOrImm) : Statement (.stdc rd rs1 o) := fun _ => (decodeWord_mem ..).trans (operand_ok (.stdc rd rs1))
theorem stcsr (rd rs1 : Reg) (o : RegOrImm) : Statement (.stcsr rd rs1 o) := fun _ => (decodeWord_mem ..).trans (operand_ok (.stcsr rd rs1))
theorem stdcq (rd rs1 : Reg) (o : RegOrImm) : Statement (.stdcq rd rs1 o) := fun _ => (decodeWord_mem ..).trans (operand_ok (.stdcq rd rs1))
theorem ldstub (rd rs1 : Reg) (o : RegOrImm) : Statement (.ldstub rd rs1 o) := fun _ => (decodeWord_mem ..).trans (operand_ok (.ldstub rd rs1))
theorem ldstuba (rd rs1 : Reg) (i : Bool) (asi : Asi) (rs2 : Reg) : Statement (.ldstuba rd rs1 i asi rs2) := fun _ => (decodeWord_mem ..).trans (alt_ok (.ldstuba rd rs1))
theorem swap (rd rs1 : Reg) (o : RegOrImm) : Statement (.swap rd rs1 o) := fun _ => (decodeWord_mem ..).trans (operand_ok (.swap rd rs1))
theorem swapa (rd rs1 : Reg) (i : Bool) (asi : Asi) (rs2 : Reg) : Statement (.swapa rd rs1 i asi rs2) := fun _ => (decodeWord_mem ..).trans (alt_ok (.swapa rd rs1))
theorem nop : Statement .nop := fun _ => decodeWord_format2 ..
theorem sethi (rd : Reg) (imm22 : BitVec 22) : Statement (.sethi rd imm22) := by
  intro h; simp only [encode, decodeWord_format2]
  simp_all [Instr.wf, decodeFormat2]; tauto
theorem and (rd rs1 : Reg) (o : RegOrImm) : Statement (.and rd rs1 o) := fun _ => (decodeWord_arith ..).trans (operand_ok (.and rd rs1))
theorem andcc (rd rs1 : Reg) (o : RegOrImm) : Statement (.andcc rd rs1 o) := fun _ => (decodeWord_arith ..).trans (operand_ok (.andcc rd rs1))
theorem andn (rd rs1 : Reg) (o : RegOrImm) : Statement (.andn rd rs1 o) := fun _ => (decodeWord_arith ..).trans (operand_ok (.andn rd rs1))
theorem andncc (rd rs1 : Reg) (o : RegOrImm) : Statement (.andncc rd rs1 o) := fun _ => (decodeWord_arith ..).trans (operand_ok (.andncc rd rs1))
theorem or (rd rs1 : Reg) (o : RegOrImm) : Statement (.or rd rs1 o) := fun _ => (decodeWord_arith ..).trans (operand_ok (.or rd rs1))
theorem orcc (rd rs1 : Reg) (o : RegOrImm) : Statement (.orcc rd rs1 o) := fun _ => (decodeWord_arith ..).trans (operand_ok (.orcc rd rs1))
theorem orn (rd rs1 : Reg) (o : RegOrImm) : Statement (.orn rd rs1 o) := fun _ => (decodeWord_arith ..).trans (operand_ok (.orn rd rs1))
theorem orncc (rd rs1 : Reg) (o : RegOrImm) : Statement (.orncc rd rs1 o) := fun _ => (decodeWord_arith ..).trans (operand_ok (.orncc rd rs1))
theorem xor (rd rs1 : Reg) (o : RegOrImm) : Statement (.xor rd rs1 o) := fun _ => (decodeWord_arith ..).trans (operand_ok (.xor rd rs1))
theorem xorcc (rd rs1 : Reg) (o : RegOrImm) : Statement (.xorcc rd rs1 o) := fun _ => (decodeWord_arith ..).trans (operand_ok (.xorcc rd rs1))
theorem xnor (rd rs1 : Reg) (o : RegOrImm) : Statement (.xnor rd rs1 o) := fun _ => (decodeWord_arith ..).trans (operand_ok (.xnor rd rs1))
theorem xnorcc (rd rs1 : Reg) (o : RegOrImm) : Statement (.xnorcc rd rs1 o) := fun _ => (decodeWord_arith ..).trans (operand_ok (.xnorcc rd rs1))
theorem sll (rd rs1 : Reg) (o : ShiftOperand) : Statement (.sll rd rs1 o) := fun _ => (decodeWord_arith ..).trans (shift_ok (.sll rd rs1))
theorem srl (rd rs1 : Reg) (o : ShiftOperand) : Statement (.srl rd rs1 o) := fun _ => (decodeWord_arith ..).trans (shift_ok (.srl rd rs1))
theorem sra (rd rs1 : Reg) (o : ShiftOperand) : Statement (.sra rd rs1 o) := fun _ => (decodeWord_arith ..).trans (shift_ok (.sra rd rs1))
theorem add (rd rs1 : Reg) (o : RegOrImm) : Statement (.add rd rs1 o) := fun _ => (decodeWord_arith ..).trans (operand_ok (.add rd rs1))
theorem addcc (rd rs1 : Reg) (o : RegOrImm) : Statement (.addcc rd rs1 o) := fun _ => (decodeWord_arith ..).trans (operand_ok (.addcc rd rs1))
theorem addx (rd rs1 : Reg) (o : RegOrImm) : Statement (.addx rd rs1 o) := fun _ => (decodeWord_arith ..).trans (operand_ok (.addx rd rs1))
theorem addxcc (rd rs1 : Reg) (o : RegOrImm) : Statement (.addxcc rd rs1 o) := fun _ => (decodeWord_arith ..).trans (operand_ok (.addxcc rd rs1))
theorem taddcc (rd rs1 : Reg) (o : RegOrImm) : Statement (.taddcc rd rs1 o) := fun _ => (decodeWord_arith ..).trans (operand_ok (.taddcc rd rs1))
theorem taddcctv (rd rs1 : Reg) (o : RegOrImm) : Statement (.taddcctv rd rs1 o) := fun _ => (decodeWord_arith ..).trans (operand_ok (.taddcctv rd rs1))
theorem sub (rd rs1 : Reg) (o : RegOrImm) : Statement (.sub rd rs1 o) := fun _ => (decodeWord_arith ..).trans (operand_ok (.sub rd rs1))
theorem subcc (rd rs1 : Reg) (o : RegOrImm) : Statement (.subcc rd rs1 o) := fun _ => (decodeWord_arith ..).trans (operand_ok (.subcc rd rs1))
theorem subx (rd rs1 : Reg) (o : RegOrImm) : Statement (.subx rd rs1 o) := fun _ => (decodeWord_arith ..).trans (operand_ok (.subx rd rs1))
theorem subxcc (rd rs1 : Reg) (o : RegOrImm) : Statement (.subxcc rd rs1 o) := fun _ => (decodeWord_arith ..).trans (operand_ok (.subxcc rd rs1))
theorem tsubcc (rd rs1 : Reg) (o : RegOrImm) : Statement (.tsubcc rd rs1 o) := fun _ => (decodeWord_arith ..).trans (operand_ok (.tsubcc rd rs1))
theorem tsubcctv (rd rs1 : Reg) (o : RegOrImm) : Statement (.tsubcctv rd rs1 o) := fun _ => (decodeWord_arith ..).trans (operand_ok (.tsubcctv rd rs1))
theorem mulscc (rd rs1 : Reg) (o : RegOrImm) : Statement (.mulscc rd rs1 o) := fun _ => (decodeWord_arith ..).trans (operand_ok (.mulscc rd rs1))
theorem umul (rd rs1 : Reg) (o : RegOrImm) : Statement (.umul rd rs1 o) := fun _ => (decodeWord_arith ..).trans (operand_ok (.umul rd rs1))
theorem smul (rd rs1 : Reg) (o : RegOrImm) : Statement (.smul rd rs1 o) := fun _ => (decodeWord_arith ..).trans (operand_ok (.smul rd rs1))
theorem umulcc (rd rs1 : Reg) (o : RegOrImm) : Statement (.umulcc rd rs1 o) := fun _ => (decodeWord_arith ..).trans (operand_ok (.umulcc rd rs1))
theorem smulcc (rd rs1 : Reg) (o : RegOrImm) : Statement (.smulcc rd rs1 o) := fun _ => (decodeWord_arith ..).trans (operand_ok (.smulcc rd rs1))
theorem udiv (rd rs1 : Reg) (o : RegOrImm) : Statement (.udiv rd rs1 o) := fun _ => (decodeWord_arith ..).trans (operand_ok (.udiv rd rs1))
theorem sdiv (rd rs1 : Reg) (o : RegOrImm) : Statement (.sdiv rd rs1 o) := fun _ => (decodeWord_arith ..).trans (operand_ok (.sdiv rd rs1))
theorem udivcc (rd rs1 : Reg) (o : RegOrImm) : Statement (.udivcc rd rs1 o) := fun _ => (decodeWord_arith ..).trans (operand_ok (.udivcc rd rs1))
theorem sdivcc (rd rs1 : Reg) (o : RegOrImm) : Statement (.sdivcc rd rs1 o) := fun _ => (decodeWord_arith ..).trans (operand_ok (.sdivcc rd rs1))
theorem save (rd rs1 : Reg) (o : RegOrImm) : Statement (.save rd rs1 o) := fun _ => (decodeWord_arith ..).trans (operand_ok (.save rd rs1))
theorem restore (rd rs1 : Reg) (o : RegOrImm) : Statement (.restore rd rs1 o) := fun _ => (decodeWord_arith ..).trans (operand_ok (.restore rd rs1))
theorem ba (a : Bool) (disp22 : BitVec 22) : Statement (.ba a disp22) := fun _ => (decodeWord_format2 ..).trans (branch_ok decodeBicc rfl)
theorem bn (a : Bool) (disp22 : BitVec 22) : Statement (.bn a disp22) := fun _ => (decodeWord_format2 ..).trans (branch_ok decodeBicc rfl)
theorem bne (a : Bool) (disp22 : BitVec 22) : Statement (.bne a disp22) := fun _ => (decodeWord_format2 ..).trans (branch_ok decodeBicc rfl)
theorem be (a : Bool) (disp22 : BitVec 22) : Statement (.be a disp22) := fun _ => (decodeWord_format2 ..).trans (branch_ok decodeBicc rfl)
theorem bg (a : Bool) (disp22 : BitVec 22) : Statement (.bg a disp22) := fun _ => (decodeWord_format2 ..).trans (branch_ok decodeBicc rfl)
theorem ble (a : Bool) (disp22 : BitVec 22) : Statement (.ble a disp22) := fun _ => (decodeWord_format2 ..).trans (branch_ok decodeBicc rfl)
theorem bge (a : Bool) (disp22 : BitVec 22) : Statement (.bge a disp22) := fun _ => (decodeWord_format2 ..).trans (branch_ok decodeBicc rfl)
theorem bl (a : Bool) (disp22 : BitVec 22) : Statement (.bl a disp22) := fun _ => (decodeWord_format2 ..).trans (branch_ok decodeBicc rfl)
theorem bgu (a : Bool) (disp22 : BitVec 22) : Statement (.bgu a disp22) := fun _ => (decodeWord_format2 ..).trans (branch_ok decodeBicc rfl)
theorem bleu (a : Bool) (disp22 : BitVec 22) : Statement (.bleu a disp22) := fun _ => (decodeWord_format2 ..).trans (branch_ok decodeBicc rfl)
theorem bcc (a : Bool) (disp22 : BitVec 22) : Statement (.bcc a disp22) := fun _ => (decodeWord_format2 ..).trans (branch_ok decodeBicc rfl)
theorem bcs (a : Bool) (disp22 : BitVec 22) : Statement (.bcs a disp22) := fun _ => (decodeWord_format2 ..).trans (branch_ok decodeBicc rfl)
theorem bpos (a : Bool) (disp22 : BitVec 22) : Statement (.bpos a disp22) := fun _ => (decodeWord_format2 ..).trans (branch_ok decodeBicc rfl)
theorem bneg (a : Bool) (disp22 : BitVec 22) : Statement (.bneg a disp22) := fun _ => (decodeWord_format2 ..).trans (branch_ok decodeBicc rfl)
theorem bvc (a : Bool) (disp22 : BitVec 22) : Statement (.bvc a disp22) := fun _ => (decodeWord_format2 ..).trans (branch_ok decodeBicc rfl)
theorem bvs (a : Bool) (disp22 : BitVec 22) : Statement (.bvs a disp22) := fun _ => (decodeWord_format2 ..).trans (branch_ok decodeBicc rfl)
theorem fba (a : Bool) (disp22 : BitVec 22) : Statement (.fba a disp22) := fun _ => (decodeWord_format2 ..).trans (branch_ok decodeFBfcc rfl)
theorem fbn (a : Bool) (disp22 : BitVec 22) : Statement (.fbn a disp22) := fun _ => (decodeWord_format2 ..).trans (branch_ok decodeFBfcc rfl)
theorem fbu (a : Bool) (disp22 : BitVec 22) : Statement (.fbu a disp22) := fun _ => (decodeWord_format2 ..).trans (branch_ok decodeFBfcc rfl)
theorem fbg (a : Bool) (disp22 : BitVec 22) : Statement (.fbg a disp22) := fun _ => (decodeWord_format2 ..).trans (branch_ok decodeFBfcc rfl)
theorem fbug (a : Bool) (disp22 : BitVec 22) : Statement (.fbug a disp22) := fun _ => (decodeWord_format2 ..).trans (branch_ok decodeFBfcc rfl)
theorem fbl (a : Bool) (disp22 : BitVec 22) : Statement (.fbl a disp22) := fun _ => (decodeWord_format2 ..).trans (branch_ok decodeFBfcc rfl)
theorem fbul (a : Bool) (disp22 : BitVec 22) : Statement (.fbul a disp22) := fun _ => (decodeWord_format2 ..).trans (branch_ok decodeFBfcc rfl)
theorem fblg (a : Bool) (disp22 : BitVec 22) : Statement (.fblg a disp22) := fun _ => (decodeWord_format2 ..).trans (branch_ok decodeFBfcc rfl)
theorem fbne (a : Bool) (disp22 : BitVec 22) : Statement (.fbne a disp22) := fun _ => (decodeWord_format2 ..).trans (branch_ok decodeFBfcc rfl)
theorem fbe (a : Bool) (disp22 : BitVec 22) : Statement (.fbe a disp22) := fun _ => (decodeWord_format2 ..).trans (branch_ok decodeFBfcc rfl)
theorem fbue (a : Bool) (disp22 : BitVec 22) : Statement (.fbue a disp22) := fun _ => (decodeWord_format2 ..).trans (branch_ok decodeFBfcc rfl)
theorem fbge (a : Bool) (disp22 : BitVec 22) : Statement (.fbge a disp22) := fun _ => (decodeWord_format2 ..).trans (branch_ok decodeFBfcc rfl)
theorem fbuge (a : Bool) (disp22 : BitVec 22) : Statement (.fbuge a disp22) := fun _ => (decodeWord_format2 ..).trans (branch_ok decodeFBfcc rfl)
theorem fble (a : Bool) (disp22 : BitVec 22) : Statement (.fble a disp22) := fun _ => (decodeWord_format2 ..).trans (branch_ok decodeFBfcc rfl)
theorem fbule (a : Bool) (disp22 : BitVec 22) : Statement (.fbule a disp22) := fun _ => (decodeWord_format2 ..).trans (branch_ok decodeFBfcc rfl)
theorem fbo (a : Bool) (disp22 : BitVec 22) : Statement (.fbo a disp22) := fun _ => (decodeWord_format2 ..).trans (branch_ok decodeFBfcc rfl)
theorem cba (a : Bool) (disp22 : BitVec 22) : Statement (.cba a disp22) := fun _ => (decodeWord_format2 ..).trans (branch_ok decodeCBccc rfl)
theorem cbn (a : Bool) (disp22 : BitVec 22) : Statement (.cbn a disp22) := fun _ => (decodeWord_format2 ..).trans (branch_ok decodeCBccc rfl)
theorem cb3 (a : Bool) (disp22 : BitVec 22) : Statement (.cb3 a disp22) := fun _ => (decodeWord_format2 ..).trans (branch_ok decodeCBccc rfl)
theorem cb2 (a : Bool) (disp22 : BitVec 22) : Statement (.cb2 a disp22) := fun _ => (decodeWord_format2 ..).trans (branch_ok decodeCBccc rfl)
theorem cb23 (a : Bool) (disp22 : BitVec 22) : Statement (.cb23 a disp22) := fun _ => (decodeWord_format2 ..).trans (branch_ok decodeCBccc rfl)
theorem cb1 (a : Bool) (disp22 : BitVec 22) : Statement (.cb1 a disp22) := fun _ => (decodeWord_format2 ..).trans (branch_ok decodeCBccc rfl)
theorem cb13 (a : Bool) (disp22 : BitVec 22) : Statement (.cb13 a disp22) := fun _ => (decodeWord_format2 ..).trans (branch_ok decodeCBccc rfl)
theorem cb12 (a : Bool) (disp22 : BitVec 22) : Statement (.cb12 a disp22) := fun _ => (decodeWord_format2 ..).trans (branch_ok decodeCBccc rfl)
theorem cb123 (a : Bool) (disp22 : BitVec 22) : Statement (.cb123 a disp22) := fun _ => (decodeWord_format2 ..).trans (branch_ok decodeCBccc rfl)
theorem cb0 (a : Bool) (disp22 : BitVec 22) : Statement (.cb0 a disp22) := fun _ => (decodeWord_format2 ..).trans (branch_ok decodeCBccc rfl)
theorem cb03 (a : Bool) (disp22 : BitVec 22) : Statement (.cb03 a disp22) := fun _ => (decodeWord_format2 ..).trans (branch_ok decodeCBccc rfl)
theorem cb02 (a : Bool) (disp22 : BitVec 22) : Statement (.cb02 a disp22) := fun _ => (decodeWord_format2 ..).trans (branch_ok decodeCBccc rfl)
theorem cb023 (a : Bool) (disp22 : BitVec 22) : Statement (.cb023 a disp22) := fun _ => (decodeWord_format2 ..).trans (branch_ok decodeCBccc rfl)
theorem cb01 (a : Bool) (disp22 : BitVec 22) : Statement (.cb01 a disp22) := fun _ => (decodeWord_format2 ..).trans (branch_ok decodeCBccc rfl)
theorem cb013 (a : Bool) (disp22 : BitVec 22) : Statement (.cb013 a disp22) := fun _ => (decodeWord_format2 ..).trans (branch_ok decodeCBccc rfl)
theorem cb012 (a : Bool) (disp22 : BitVec 22) : Statement (.cb012 a disp22) := fun _ => (decodeWord_format2 ..).trans (branch_ok decodeCBccc rfl)
theorem call (disp30 : BitVec 30) : Statement (.call disp30) := by
  intro _; simp [encode, decodeWord]
theorem jmpl (rd rs1 : Reg) (o : RegOrImm) : Statement (.jmpl rd rs1 o) := fun _ => (decodeWord_arith ..).trans (operand_ok (.jmpl rd rs1))
theorem rett (rs1 : Reg) (o : RegOrImm) : Statement (.rett rs1 o) := fun _ => (decodeWord_arith ..).trans (operand_ok (.rett rs1))
theorem ta (rs1 : Reg) (o : TrapOperand) : Statement (.ta rs1 o) := fun _ => (decodeWord_arith ..).trans (ticc_ok rfl)
theorem tn (rs1 : Reg) (o : TrapOperand) : Statement (.tn rs1 o) := fun _ => (decodeWord_arith ..).trans (ticc_ok rfl)
theorem tne (rs1 : Reg) (o : TrapOperand) : Statement (.tne rs1 o) := fun _ => (decodeWord_arith ..).trans (ticc_ok rfl)
theorem te (rs1 : Reg) (o : TrapOperand) : Statement (.te rs1 o) := fun _ => (decodeWord_arith ..).trans (ticc_ok rfl)
theorem tg (rs1 : Reg) (o : TrapOperand) : Statement (.tg rs1 o) := fun _ => (decodeWord_arith ..).trans (ticc_ok rfl)
theorem tle (rs1 : Reg) (o : TrapOperand) : Statement (.tle rs1 o) := fun _ => (decodeWord_arith ..).trans (ticc_ok rfl)
theorem tge (rs1 : Reg) (o : TrapOperand) : Statement (.tge rs1 o) := fun _ => (decodeWord_arith ..).trans (ticc_ok rfl)
theorem tl (rs1 : Reg) (o : TrapOperand) : Statement (.tl rs1 o) := fun _ => (decodeWord_arith ..).trans (ticc_ok rfl)
theorem tgu (rs1 : Reg) (o : TrapOperand) : Statement (.tgu rs1 o) := fun _ => (decodeWord_arith ..).trans (ticc_ok rfl)
theorem tleu (rs1 : Reg) (o : TrapOperand) : Statement (.tleu rs1 o) := fun _ => (decodeWord_arith ..).trans (ticc_ok rfl)
theorem tcc (rs1 : Reg) (o : TrapOperand) : Statement (.tcc rs1 o) := fun _ => (decodeWord_arith ..).trans (ticc_ok rfl)
theorem tcs (rs1 : Reg) (o : TrapOperand) : Statement (.tcs rs1 o) := fun _ => (decodeWord_arith ..).trans (ticc_ok rfl)
theorem tpos (rs1 : Reg) (o : TrapOperand) : Statement (.tpos rs1 o) := fun _ => (decodeWord_arith ..).trans (ticc_ok rfl)
theorem tneg (rs1 : Reg) (o : TrapOperand) : Statement (.tneg rs1 o) := fun _ => (decodeWord_arith ..).trans (ticc_ok rfl)
theorem tvc (rs1 : Reg) (o : TrapOperand) : Statement (.tvc rs1 o) := fun _ => (decodeWord_arith ..).trans (ticc_ok rfl)
theorem tvs (rs1 : Reg) (o : TrapOperand) : Statement (.tvs rs1 o) := fun _ => (decodeWord_arith ..).trans (ticc_ok rfl)
theorem rdy (rd : Reg) : Statement (.rdy rd) := fun _ => (decodeWord_arith ..)
theorem stbar : Statement .stbar := fun _ => (decodeWord_arith ..)
theorem rdasr (rd rs1 : Reg) : Statement (.rdasr rd rs1) := by
  intro h; refine (decodeWord_arith ..).trans (?_ : Except.ok (decodeReadAsr rd rs1) = _)
  simp_all [Instr.wf, decodeReadAsr]; tauto
theorem rdpsr (rd : Reg) : Statement (.rdpsr rd) := fun _ => (decodeWord_arith ..)
theorem rdwim (rd : Reg) : Statement (.rdwim rd) := fun _ => (decodeWord_arith ..)
theorem rdtbr (rd : Reg) : Statement (.rdtbr rd) := fun _ => (decodeWord_arith ..)
theorem wry (rs1 : Reg) (o : RegOrImm) : Statement (.wry rs1 o) := fun _ => (decodeWord_arith ..).trans (operand_ok (.wry rs1))
theorem wrasr (rd rs1 : Reg) (o : RegOrImm) : Statement (.wrasr rd rs1 o) := by
  intro h; refine (decodeWord_arith ..).trans (?_ : Except.ok (decodeWriteAsr rd rs1 (regOrImm (lowRegOrImm o))) = _)
  simp_all [Instr.wf, decodeWriteAsr]
theorem wrpsr (rs1 : Reg) (o : RegOrImm) : Statement (.wrpsr rs1 o) := fun _ => (decodeWord_arith ..).trans (operand_ok (.wrpsr rs1))
theorem wrwim (rs1 : Reg) (o : RegOrImm) : Statement (.wrwim rs1 o) := fun _ => (decodeWord_arith ..).trans (operand_ok (.wrwim rs1))
theorem wrtbr (rs1 : Reg) (o : RegOrImm) : Statement (.wrtbr rs1 o) := fun _ => (decodeWord_arith ..).trans (operand_ok (.wrtbr rs1))
theorem unimp (const22 : BitVec 22) : Statement (.unimp const22) := fun _ => decodeWord_format2 ..
theorem flush (rs1 : Reg) (o : RegOrImm) : Statement (.flush rs1 o) := fun _ => (decodeWord_arith ..).trans (operand_ok (.flush rs1))
theorem fitos (rd rs2 : Reg) : Statement (.fitos rd rs2) := fun _ => (decodeWord_arith ..).trans (opf_ok (fun p r => decodeFpop1 p rd 0 r))
theorem fitod (rd rs2 : Reg) : Statement (.fitod rd rs2) := fun _ => (decodeWord_arith ..).trans (opf_ok (fun p r => decodeFpop1 p rd 0 r))
theorem fitoq (rd rs2 : Reg) : Statement (.fitoq rd rs2) := fun _ => (decodeWord_arith ..).trans (opf_ok (fun p r => decodeFpop1 p rd 0 r))
theorem fstoi (rd rs2 : Reg) : Statement (.fstoi rd rs2) := fun _ => (decodeWord_arith ..).trans (opf_ok (fun p r => decodeFpop1 p rd 0 r))
theorem fdtoi (rd rs2 : Reg) : Statement (.fdtoi rd rs2) := fun _ => (decodeWord_arith ..).trans (opf_ok (fun p r => decodeFpop1 p rd 0 r))
theorem fqtoi (rd rs2 : Reg) : Statement (.fqtoi rd rs2) := fun _ => (decodeWord_arith ..).trans (opf_ok (fun p r => decodeFpop1 p rd 0 r))
theorem fstod (rd rs2 : Reg) : Statement (.fstod rd rs2) := fun _ => (decodeWord_arith ..).trans (opf_ok (fun p r => decodeFpop1 p rd 0 r))
theorem fstoq (rd rs2 : Reg) : Statement (.fstoq rd rs2) := fun _ => (decodeWord_arith ..).trans (opf_ok (fun p r => decodeFpop1 p rd 0 r))
theorem fdtos (rd rs2 : Reg) : Statement (.fdtos rd rs2) := fun _ => (decodeWord_arith ..).trans (opf_ok (fun p r => decodeFpop1 p rd 0 r))
theorem fdtoq (rd rs2 : Reg) : Statement (.fdtoq rd rs2) := fun _ => (decodeWord_arith ..).trans (opf_ok (fun p r => decodeFpop1 p rd 0 r))
theorem fqtos (rd rs2 : Reg) : Statement (.fqtos rd rs2) := fun _ => (decodeWord_arith ..).trans (opf_ok (fun p r => decodeFpop1 p rd 0 r))
theorem fqtod (rd rs2 : Reg) : Statement (.fqtod rd rs2) := fun _ => (decodeWord_arith ..).trans (opf_ok (fun p r => decodeFpop1 p rd 0 r))
theorem fmovs (rd rs2 : Reg) : Statement (.fmovs rd rs2) := fun _ => (decodeWord_arith ..).trans (opf_ok (fun p r => decodeFpop1 p rd 0 r))
theorem fnegs (rd rs2 : Reg) : Statement (.fnegs rd rs2) := fun _ => (decodeWord_arith ..).trans (opf_ok (fun p r => decodeFpop1 p rd 0 r))
theorem fabss (rd rs2 : Reg) : Statement (.fabss rd rs2) := fun _ => (decodeWord_arith ..).trans (opf_ok (fun p r => decodeFpop1 p rd 0 r))
theorem fsqrts (rd rs2 : Reg) : Statement (.fsqrts rd rs2) := fun _ => (decodeWord_arith ..).trans (opf_ok (fun p r => decodeFpop1 p rd 0 r))
theorem fsqrtd (rd rs2 : Reg) : Statement (.fsqrtd rd rs2) := fun _ => (decodeWord_arith ..).trans (opf_ok (fun p r => decodeFpop1 p rd 0 r))
theorem fsqrtq (rd rs2 : Reg) : Statement (.fsqrtq rd rs2) := fun _ => (decodeWord_arith ..).trans (opf_ok (fun p r => decodeFpop1 p rd 0 r))
theorem fadds (rd rs1 rs2 : Reg) : Statement (.fadds rd rs1 rs2) := fun _ => (decodeWord_arith ..).trans (opf_ok (fun p r => decodeFpop1 p rd rs1 r))
theorem faddd (rd rs1 rs2 : Reg) : Statement (.faddd rd rs1 rs2) := fun _ => (decodeWord_arith ..).trans (opf_ok (fun p r => decodeFpop1 p rd rs1 r))
theorem faddq (rd rs1 rs2 : Reg) : Statement (.faddq rd rs1 rs2) := fun _ => (decodeWord_arith ..).trans (opf_ok (fun p r => decodeFpop1 p rd rs1 r))
theorem fsubs (rd rs1 rs2 : Reg) : Statement (.fsubs rd rs1 rs2) := fun _ => (decodeWord_arith ..).trans (opf_ok (fun p r => decodeFpop1 p rd rs1 r))
theorem fsubd (rd rs1 rs2 : Reg) : Statement (.fsubd rd rs1 rs2) := fun _ => (decodeWord_arith ..).trans (opf_ok (fun p r => decodeFpop1 p rd rs1 r))
theorem fsubq (rd rs1 rs2 : Reg) : Statement (.fsubq rd rs1 rs2) := fun _ => (decodeWord_arith ..).trans (opf_ok (fun p r => decodeFpop1 p rd rs1 r))
theorem fmuls (rd rs1 rs2 : Reg) : Statement (.fmuls rd rs1 rs2) := fun _ => (decodeWord_arith ..).trans (opf_ok (fun p r => decodeFpop1 p rd rs1 r))
theorem fmuld (rd rs1 rs2 : Reg) : Statement (.fmuld rd rs1 rs2) := fun _ => (decodeWord_arith ..).trans (opf_ok (fun p r => decodeFpop1 p rd rs1 r))
theorem fmulq (rd rs1 rs2 : Reg) : Statement (.fmulq rd rs1 rs2) := fun _ => (decodeWord_arith ..).trans (opf_ok (fun p r => decodeFpop1 p rd rs1 r))
theorem fsmuld (rd rs1 rs2 : Reg) : Statement (.fsmuld rd rs1 rs2) := fun _ => (decodeWord_arith ..).trans (opf_ok (fun p r => decodeFpop1 p rd rs1 r))
theorem fdmulq (rd rs1 rs2 : Reg) : Statement (.fdmulq rd rs1 rs2) := fun _ => (decodeWord_arith ..).trans (opf_ok (fun p r => decodeFpop1 p rd rs1 r))
theorem fdivs (rd rs1 rs2 : Reg) : Statement (.fdivs rd rs1 rs2) := fun _ => (decodeWord_arith ..).trans (opf_ok (fun p r => decodeFpop1 p rd rs1 r))
theorem fdivd (rd rs1 rs2 : Reg) : Statement (.fdivd rd rs1 rs2) := fun _ => (decodeWord_arith ..).trans (opf_ok (fun p r => decodeFpop1 p rd rs1 r))
theorem fdivq (rd rs1 rs2 : Reg) : Statement (.fdivq rd rs1 rs2) := fun _ => (decodeWord_arith ..).trans (opf_ok (fun p r => decodeFpop1 p rd rs1 r))
theorem fcmps (rs1 rs2 : Reg) : Statement (.fcmps rs1 rs2) := fun _ => (decodeWord_arith ..).trans (opf_ok (fun p r => decodeFpop2 p rs1 r))
theorem fcmpd (rs1 rs2 : Reg) : Statement (.fcmpd rs1 rs2) := fun _ => (decodeWord_arith ..).trans (opf_ok (fun p r => decodeFpop2 p rs1 r))
theorem fcmpq (rs1 rs2 : Reg) : Statement (.fcmpq rs1 rs2) := fun _ => (decodeWord_arith ..).trans (opf_ok (fun p r => decodeFpop2 p rs1 r))
theorem fcmpes (rs1 rs2 : Reg) : Statement (.fcmpes rs1 rs2) := fun _ => (decodeWord_arith ..).trans (opf_ok (fun p r => decodeFpop2 p rs1 r))
theorem fcmped (rs1 rs2 : Reg) : Statement (.fcmped rs1 rs2) := fun _ => (decodeWord_arith ..).trans (opf_ok (fun p r => decodeFpop2 p rs1 r))
theorem fcmpeq (rs1 rs2 : Reg) : Statement (.fcmpeq rs1 rs2) := fun _ => (decodeWord_arith ..).trans (opf_ok (fun p r => decodeFpop2 p rs1 r))
theorem cpop1 (rd rs1 : Reg) (opc : BitVec 9) (rs2 : Reg) : Statement (.cpop1 rd rs1 opc rs2) := fun _ => (decodeWord_arith ..).trans (opf_ok (fun p r => .ok (.cpop1 rd rs1 p r)))
theorem cpop2 (rd rs1 : Reg) (opc : BitVec 9) (rs2 : Reg) : Statement (.cpop2 rd rs1 opc rs2) := fun _ => (decodeWord_arith ..).trans (opf_ok (fun p r => .ok (.cpop2 rd rs1 p r)))

end Sys2Proof.Laws.Encoding
end

