-- ==== Sys2Proof/Laws/Rounding.lean ====
section
/-! SUPPORT. The one rounding of the floating-point arithmetic: what packed bits unpack to, and that `fpRound` rounds correctly
(`RoundsTo`) whatever real magnitude its significand stands for, exact or cut with a sticky bit. -/

set_option Elab.async false

namespace Sys2Proof.Machine

/-! ### Formats -/

theorem FpFormat.fraction_pos (fmt : FpFormat) : 1 ≤ fmt.fractionBits := by cases fmt <;> decide
theorem FpFormat.bias_pos (fmt : FpFormat) : 1 ≤ fmt.bias := by cases fmt <;> decide
theorem FpFormat.two_pow_exponentBits (fmt : FpFormat) : 2 ^ fmt.exponentBits = 2 * fmt.bias + 2 := by cases fmt <;> decide
theorem FpFormat.maxExponent_eq (fmt : FpFormat) : fmt.maxExponent = 2 * fmt.bias + 1 := by cases fmt <;> decide

theorem fpSign_eq (fmt : FpFormat) (sign : Bool) :
    fpSign fmt sign = sign.toNat * 2 ^ (fmt.fractionBits + fmt.exponentBits) := by
  cases sign <;> simp [fpSign, Nat.shiftLeft_eq]

/-- The sign and the magnitude bits of an operand, unpacked. -/
theorem fpUnpack_sign_add (fmt : FpFormat) (sign : Bool) {field fraction : Nat} (hf : field ≤ fmt.maxExponent)
    (hg : fraction < 2 ^ fmt.fractionBits) :
    fpUnpack fmt (fpSign fmt sign + (field * 2 ^ fmt.fractionBits + fraction)) =
      if field = fmt.maxExponent then
        if fraction = 0 then .infinity sign else .nan ((fraction >>> (fmt.fractionBits - 1)) % 2 == 0)
      else if field = 0 then .finite sign fraction (1 - (fmt.bias : Int) - fmt.fractionBits)
      else .finite sign (fraction + 2 ^ fmt.fractionBits) ((field : Int) - fmt.bias - fmt.fractionBits) := by
  have hk := fmt.two_pow_exponentBits
  have hm := fmt.maxExponent_eq
  have hfield : field < 2 ^ fmt.exponentBits := by omega
  have hpos : 0 < 2 ^ fmt.fractionBits := Nat.two_pow_pos _
  have hlow : field * 2 ^ fmt.fractionBits + fraction < 2 ^ (fmt.fractionBits + fmt.exponentBits) := by
    rw [pow_add]; nlinarith
  have e1 : fpSign fmt sign + (field * 2 ^ fmt.fractionBits + fraction)
      = fraction + 2 ^ fmt.fractionBits * (field + 2 ^ fmt.exponentBits * sign.toNat) := by
    rw [fpSign_eq, pow_add]; ring
  have h1 : (fpSign fmt sign + (field * 2 ^ fmt.fractionBits + fraction)) % 2 ^ fmt.fractionBits = fraction := by
    rw [e1, Nat.add_mul_mod_self_left, Nat.mod_eq_of_lt hg]
  have h2 : (fpSign fmt sign + (field * 2 ^ fmt.fractionBits + fraction)) / 2 ^ fmt.fractionBits % 2 ^ fmt.exponentBits = field := by
    rw [e1, Nat.add_mul_div_left _ _ hpos, Nat.div_eq_of_lt hg, Nat.zero_add, Nat.add_mul_mod_self_left, Nat.mod_eq_of_lt hfield]
  have h3 : (fpSign fmt sign + (field * 2 ^ fmt.fractionBits + fraction)) / 2 ^ (fmt.fractionBits + fmt.exponentBits) = sign.toNat := by
    rw [fpSign_eq, Nat.add_comm, Nat.add_mul_div_right _ _ (Nat.two_pow_pos _), Nat.div_eq_of_lt hlow, Nat.zero_add]
  have h4 : (sign.toNat % 2 == 1) = sign := by cases sign <;> rfl
  simp only [fpUnpack, Nat.shiftLeft_eq, Nat.one_mul, Nat.shiftRight_eq_div_pow, h1, h2, h3, h4]

theorem fpUnpack_fpInfinity (fmt : FpFormat) (sign : Bool) : fpUnpack fmt (fpInfinity fmt sign) = .infinity sign := by
  have := fpUnpack_sign_add fmt sign (field := fmt.maxExponent) (fraction := 0) le_rfl (Nat.two_pow_pos _)
  simpa [fpInfinity, Nat.shiftLeft_eq] using this

theorem fpUnpack_fpZero (fmt : FpFormat) (sign : Bool) :
    fpUnpack fmt (fpZero fmt sign) = .finite sign 0 (1 - (fmt.bias : Int) - fmt.fractionBits) := by
  have := fpUnpack_sign_add fmt sign (field := 0) (fraction := 0) (Nat.zero_le _) (Nat.two_pow_pos _)
  rw [if_neg (by rw [fmt.maxExponent_eq]; omega)] at this
  simpa [fpZero] using this

theorem fpUnpack_fpLargest (fmt : FpFormat) (sign : Bool) : fpUnpack fmt (fpLargest fmt sign)
    = .finite sign (2 ^ (fmt.fractionBits + 1) - 1) (fmt.bias - fmt.fractionBits) := by
  have hm := fmt.maxExponent_eq
  have hb := fmt.bias_pos
  have hpos : 0 < 2 ^ fmt.fractionBits := Nat.two_pow_pos _
  have := fpUnpack_sign_add fmt sign (field := 2 * fmt.bias) (fraction := 2 ^ fmt.fractionBits - 1) (by omega) (by omega)
  rw [if_neg (by omega), if_neg (by omega)] at this
  have he : fpLargest fmt sign = fpSign fmt sign + (2 * fmt.bias * 2 ^ fmt.fractionBits + (2 ^ fmt.fractionBits - 1)) := by
    rw [fpLargest, Nat.shiftLeft_eq, hm, Nat.add_mul, Nat.one_mul]; omega
  rw [he, this, pow_succ]
  congr 1
  · omega
  · push_cast; omega

theorem fpUnpack_fpNan (fmt : FpFormat) (src : NanSource) : fpUnpack fmt (fpNan fmt src) = .nan false := by
  have hp := fmt.fraction_pos
  obtain ⟨p, hp⟩ : ∃ p, fmt.fractionBits = p + 1 := ⟨fmt.fractionBits - 1, by omega⟩
  generalize hx : Config.nanPayload src.opf src.rnd src.x src.y % (1 <<< (fmt.fractionBits - 1)) = x
  have hx' : x < 2 ^ p := by
    rw [← hx, hp, Nat.shiftLeft_eq, Nat.one_mul]; exact Nat.mod_lt _ (Nat.two_pow_pos _)
  have hb : 2 ^ (p + 1) = 2 * 2 ^ p := by rw [pow_succ]; ring
  have hpos : 0 < 2 ^ p := Nat.two_pow_pos _
  have := fpUnpack_sign_add fmt (Config.nanSign src.opf src.rnd src.x src.y) (field := fmt.maxExponent)
    (fraction := 2 ^ p + x) le_rfl (by rw [hp, hb]; omega)
  rw [if_pos rfl, if_neg (by omega)] at this
  have he : fpNan fmt src = fpSign fmt (Config.nanSign src.opf src.rnd src.x src.y)
      + (fmt.maxExponent * 2 ^ fmt.fractionBits + (2 ^ p + x)) := by
    rw [fpNan, hx, hp, Nat.shiftLeft_eq, Nat.shiftLeft_eq]; simp; ring
  rw [he, this]
  congr 1
  rw [hp, Nat.shiftRight_eq_div_pow]
  have : (2 ^ p + x) / 2 ^ p = 1 := by rw [Nat.add_div_left _ hpos, Nat.div_eq_of_lt hx']
  simp [this]

/-! ### Rounding a magnitude to an integer -/

/-- The choice of `roundsUp` is the rounding of ±X, where K is the integer part of X. -/
theorem roundsToInt_roundsUp (rnd : BitVec 2) (sign : Bool) (K : ℕ) (X : ℝ) (inexact : Bool) (half : Ordering)
    (h0 : (K : ℝ) ≤ X) (h1 : X < K + 1) (hi : inexact = true ↔ X ≠ K)
    (hg : half = .gt ↔ (K : ℝ) + 1 / 2 < X) (he : half = .eq ↔ X = K + 1 / 2) :
    RoundsToInt rnd (if sign then -X else X)
      ((if sign then -1 else 1) * ((K + (if roundsUp rnd sign (K % 2 == 1) inexact half then 1 else 0) : ℕ) : ℤ)) := by
  have hX : 0 ≤ X := le_trans (Nat.cast_nonneg K) h0
  have hfloor : ⌊X⌋ = (K : ℤ) := Int.floor_eq_iff.mpr ⟨by exact_mod_cast h0, by exact_mod_cast h1⟩
  have hceil : ⌈X⌉ = (K : ℤ) + (if inexact then 1 else 0) := by
    by_cases h : inexact = true
    · rw [if_pos h]
      refine Int.ceil_eq_iff.mpr ⟨?_, by push_cast; linarith⟩
      have := lt_of_le_of_ne h0 (Ne.symm (hi.mp h))
      push_cast; linarith
    · rw [if_neg h, show X = K by by_contra hn; exact h (hi.mpr hn)]; simp
  have hr : rnd.toNat < 4 := rnd.isLt
  have hcases : rnd.toNat = 0 ∨ rnd.toNat = 1 ∨ rnd.toNat = 2 ∨ rnd.toNat = 3 := by omega
  unfold RoundsToInt roundsUp
  rcases hcases with h | h | h | h <;> simp only [h]
  · -- nearest
    have key : |X - ((K + (if (half == Ordering.gt || half == Ordering.eq && K % 2 == 1) = true then 1 else 0) : ℕ) : ℝ)| ≤ 1 / 2
        ∧ (|X - ((K + (if (half == Ordering.gt || half == Ordering.eq && K % 2 == 1) = true then 1 else 0) : ℕ) : ℝ)| = 1 / 2 →
          Even ((K + (if (half == Ordering.gt || half == Ordering.eq && K % 2 == 1) = true then 1 else 0) : ℕ) : ℤ)) := by
      rcases lt_trichotomy X (K + 1 / 2) with hlt | heq | hgt
      · have h2 : half ≠ .gt := fun h => absurd (hg.mp h) (by linarith)
        have h3 : half ≠ .eq := fun h => absurd (he.mp h) (by linarith)
        simp only [beq_iff_eq, h2, h3, Bool.or_eq_true, Bool.and_eq_true, false_and, or_self, if_false, Nat.add_zero]
        have : |X - (K : ℝ)| < 1 / 2 := by rw [abs_lt]; constructor <;> linarith
        exact ⟨this.le, fun h => absurd h this.ne⟩
      · have h2 : half = .eq := he.mpr heq
        subst h2
        by_cases hodd : K % 2 = 1
        · simp [hodd, heq]
          constructor
          · rw [abs_le]; constructor <;> linarith
          · intro _
            exact Nat.odd_iff.mpr hodd
        · simp [hodd, heq]
          exact Nat.even_iff.mpr (by omega)
      · have h2 : half = .gt := hg.mpr hgt
        subst h2
        simp only [beq_self_eq_true, Bool.true_or, if_true]
        push_cast
        have : |X - ((K : ℝ) + 1)| < 1 / 2 := by rw [abs_lt]; constructor <;> linarith
        exact ⟨this.le, fun h => absurd h this.ne⟩
    cases sign
    · simpa using key
    · simp only [if_true]
      have e : ∀ y : ℕ, |-X - (((-1 : ℤ) * (y : ℤ) : ℤ) : ℝ)| = |X - (y : ℝ)| := by
        intro y; rw [← abs_neg]; congr 1; push_cast; ring
      rw [e]
      exact ⟨key.1, fun h => by rw [neg_one_mul, even_neg]; exact key.2 h⟩
  · cases sign
    · simp [hfloor]
      intro h
      have : X = 0 := le_antisymm h hX
      subst this
      have : (K : ℝ) = 0 := le_antisymm h0 (Nat.cast_nonneg _)
      rw [Int.ceil_zero]; exact_mod_cast this
    · simp [Int.ceil_neg, hfloor, Int.floor_neg]
      intro h
      have : X = 0 := le_antisymm h hX
      subst this
      have : (K : ℝ) = 0 := le_antisymm h0 (Nat.cast_nonneg _)
      rw [Int.ceil_zero]; exact_mod_cast this
  · cases sign
    · simp [hceil]
    · simp [Int.ceil_neg, hfloor]
  · cases sign
    · simp [hfloor]
    · simp [Int.floor_neg, hceil]

/-! ### Rounding a real magnitude -/

/-- `m × 2^e` stands for the magnitude `u` in a rounding: it is `u`, or it has two bits to spare below the rounding position and
compares with every even multiple of `2^e` as `u` does, its last bit being the mark of a discarded part. -/
structure StandsFor (fmt : FpFormat) (m : ℕ) (e : ℤ) (u : ℝ) : Prop where
  enough : u = m * 2 ^ e ∨ fmt.fractionBits + 2 ≤ Nat.log2 m
  le : ∀ n : ℤ, (Even n ∨ u = m * 2 ^ e) → ((n : ℝ) * 2 ^ e ≤ u ↔ n ≤ m)
  ge : ∀ n : ℤ, (Even n ∨ u = m * 2 ^ e) → (u ≤ (n : ℝ) * 2 ^ e ↔ (m : ℤ) ≤ n)

theorem standsFor_exact (fmt : FpFormat) (m : ℕ) (e : ℤ) : StandsFor fmt m e (m * 2 ^ e) := by
  have hp : (0 : ℝ) < 2 ^ e := zpow_pos (by norm_num) _
  refine ⟨.inl rfl, fun n _ => ?_, fun n _ => ?_⟩
  · rw [mul_le_mul_iff_left₀ hp]; exact_mod_cast Iff.rfl
  · rw [mul_le_mul_iff_left₀ hp]; exact_mod_cast Iff.rfl

/-- A significand cut from a longer one, with its sticky bit. -/
theorem standsFor_sticky (fmt : FpFormat) (q : ℕ) (e : ℤ) (u : ℝ) (exact : Bool) (hq : 2 ^ (fmt.fractionBits + 1) ≤ q)
    (h0 : (q : ℝ) * 2 ^ (e + 1) ≤ u) (h1 : u < (q + 1) * 2 ^ (e + 1)) (hs : exact = true ↔ u = q * 2 ^ (e + 1)) :
    StandsFor fmt (2 * q + (if exact then 0 else 1)) e u := by
  have hp : (0 : ℝ) < 2 ^ e := zpow_pos (by norm_num) _
  have he : (2 : ℝ) ^ (e + 1) = 2 * 2 ^ e := by rw [zpow_add₀ (by norm_num)]; ring
  rw [he] at h0 h1 hs
  by_cases hx : exact = true
  · rw [if_pos hx]
    have := hs.mp hx
    rw [show u = ((2 * q + 0 : ℕ) : ℝ) * 2 ^ e by rw [this]; push_cast; ring]
    exact standsFor_exact _ _ _
  · rw [if_neg hx]
    have hne : u ≠ q * (2 * 2 ^ e) := fun h => hx (hs.mpr h)
    have h0' : (q : ℝ) * (2 * 2 ^ e) < u := lt_of_le_of_ne h0 (Ne.symm hne)
    have key : ∀ n : ℤ, Even n ∨ u = ((2 * q + 1 : ℕ) : ℝ) * 2 ^ e → Even n ∨ u = ((2 * q + 1 : ℕ) : ℝ) * 2 ^ e := fun _ h => h
    refine ⟨.inr ?_, fun n hn => ?_, fun n hn => ?_⟩
    · rw [Nat.le_log2 (by omega)]
      have : 2 ^ (fmt.fractionBits + 2) = 2 * 2 ^ (fmt.fractionBits + 1) := by rw [pow_succ]; ring
      omega
    · rcases hn with ⟨k, rfl⟩ | hu
      · constructor
        · intro h
          have : ((k : ℤ) : ℝ) < q + 1 := by
            have h2 : ((k + k : ℤ) : ℝ) * 2 ^ e < (q + 1) * (2 * 2 ^ e) := lt_of_le_of_lt h h1
            push_cast at h2; nlinarith
          have : k < (q : ℤ) + 1 := by exact_mod_cast this
          push_cast; omega
        · intro h
          have : k ≤ (q : ℤ) := by push_cast at h; omega
          have : (k : ℝ) ≤ q := by exact_mod_cast this
          push_cast; nlinarith
      · rw [hu, mul_le_mul_iff_left₀ hp]; exact_mod_cast Iff.rfl
    · rcases hn with ⟨k, rfl⟩ | hu
      · constructor
        · intro h
          have : (q : ℝ) < k := by
            have h2 : (q : ℝ) * (2 * 2 ^ e) < ((k + k : ℤ) : ℝ) * 2 ^ e := lt_of_lt_of_le h0' h
            push_cast at h2; nlinarith
          have : (q : ℤ) < k := by exact_mod_cast this
          push_cast; omega
        · intro h
          have : (q : ℤ) + 1 ≤ k := by push_cast at h; omega
          have : (q : ℝ) + 1 ≤ k := by exact_mod_cast this
          push_cast; nlinarith
      · rw [hu, mul_le_mul_iff_left₀ hp]; exact_mod_cast Iff.rfl

theorem log2_le {m : ℕ} (hm : m ≠ 0) : 2 ^ Nat.log2 m ≤ m := Nat.log2_self_le hm
theorem lt_log2 {m : ℕ} (hm : m ≠ 0) : m < 2 ^ (Nat.log2 m + 1) := (Nat.log2_lt hm).mp (Nat.lt_succ_self _)

/-- The bits a magnitude of `N` units of `2^lsb` packs to, unpacked: `field` is the exponent field less the leading bit of `N`. -/
theorem unpack_rounded (fmt : FpFormat) (sign : Bool) {field N : ℕ} {lsb : ℤ}
    (hN : N ≤ 2 ^ (fmt.fractionBits + 1)) (hlsb : lsb = (field : ℤ) + 1 - fmt.bias - fmt.fractionBits)
    (hsub : N < 2 ^ fmt.fractionBits → field = 0) (hfit : field * 2 ^ fmt.fractionBits + N < fmt.maxExponent * 2 ^ fmt.fractionBits) :
    ∃ m e, fpUnpack fmt (fpSign fmt sign + (field * 2 ^ fmt.fractionBits + N)) = .finite sign m e
      ∧ (N : ℝ) * 2 ^ lsb = m * 2 ^ e := by
  have hpos : 0 < 2 ^ fmt.fractionBits := Nat.two_pow_pos _
  have h2 : 2 ^ (fmt.fractionBits + 1) = 2 * 2 ^ fmt.fractionBits := by rw [pow_succ]; ring
  have hm := fmt.maxExponent_eq
  by_cases hlt : N < 2 ^ fmt.fractionBits
  · obtain rfl := hsub hlt
    have := fpUnpack_sign_add fmt sign (field := 0) (Nat.zero_le _) hlt
    rw [if_neg (by omega), if_pos rfl] at this
    exact ⟨_, _, this, by rw [hlsb]; simp⟩
  · have hfield : field + 1 ≤ fmt.maxExponent := by
      by_contra hc
      have : fmt.maxExponent * 2 ^ fmt.fractionBits ≤ field * 2 ^ fmt.fractionBits := Nat.mul_le_mul_right _ (by omega)
      omega
    by_cases htop : N < 2 ^ (fmt.fractionBits + 1)
    · have hne : field + 1 ≠ fmt.maxExponent := by
        intro hc
        have : fmt.maxExponent * 2 ^ fmt.fractionBits = field * 2 ^ fmt.fractionBits + 2 ^ fmt.fractionBits := by
          rw [← hc, Nat.add_mul, Nat.one_mul]
        omega
      have := fpUnpack_sign_add fmt sign (field := field + 1) (fraction := N - 2 ^ fmt.fractionBits) hfield (by omega)
      rw [if_neg hne, if_neg (by omega)] at this
      refine ⟨_, _, by rw [← this]; congr 2; rw [Nat.add_mul]; omega, ?_⟩
      rw [Nat.sub_add_cancel (by omega), hlsb]; push_cast; rfl
    · obtain rfl : N = 2 ^ (fmt.fractionBits + 1) := by omega
      have hne : field + 2 ≠ fmt.maxExponent := by
        intro hc
        have : fmt.maxExponent * 2 ^ fmt.fractionBits = field * 2 ^ fmt.fractionBits + 2 * 2 ^ fmt.fractionBits := by
          rw [← hc, Nat.add_mul]
        omega
      have hle : field + 2 ≤ fmt.maxExponent := by
        by_contra hc
        have : fmt.maxExponent * 2 ^ fmt.fractionBits = field * 2 ^ fmt.fractionBits + 2 ^ fmt.fractionBits := by
          rw [show fmt.maxExponent = field + 1 by omega, Nat.add_mul, Nat.one_mul]
        omega
      have := fpUnpack_sign_add fmt sign (field := field + 2) (fraction := 0) hle hpos
      rw [if_neg hne, if_neg (by omega)] at this
      refine ⟨_, _, by rw [← this]; congr 2; rw [Nat.add_mul]; omega, ?_⟩
      rw [hlsb, Nat.zero_add]
      push_cast
      rw [pow_succ, mul_assoc, ← zpow_one_add₀ (by norm_num)]
      congr 2; ring

/-- When a rounded magnitude reaches the exponent field of infinity. -/
theorem rounded_overflows_iff (fmt : FpFormat) {field N : ℕ} {lsb : ℤ}
    (hN : N ≤ 2 ^ (fmt.fractionBits + 1)) (hlsb : lsb = (field : ℤ) + 1 - fmt.bias - fmt.fractionBits)
    (hsub : N < 2 ^ fmt.fractionBits → field = 0) :
    fmt.maxExponent * 2 ^ fmt.fractionBits ≤ field * 2 ^ fmt.fractionBits + N ↔ (2 : ℝ) ^ (fmt.bias + 1) ≤ N * 2 ^ lsb := by
  have hpos : 0 < 2 ^ fmt.fractionBits := Nat.two_pow_pos _
  have h2 : 2 ^ (fmt.fractionBits + 1) = 2 * 2 ^ fmt.fractionBits := by rw [pow_succ]; ring
  have hm := fmt.maxExponent_eq
  have hb := fmt.bias_pos
  have hl : (0 : ℝ) < 2 ^ lsb := zpow_pos (by norm_num) _
  have hz : (2 : ℝ) ^ (fmt.bias + 1) = 2 ^ ((fmt.bias : ℤ) + 1) := by rw [← zpow_natCast]; push_cast; rfl
  rw [hz]
  have hNr : (N : ℝ) ≤ 2 ^ ((fmt.fractionBits : ℤ) + 1) := by
    rw [show ((fmt.fractionBits : ℤ) + 1) = ((fmt.fractionBits + 1 : ℕ) : ℤ) by push_cast; rfl, zpow_natCast]
    exact_mod_cast hN
  by_cases hlt : N < 2 ^ fmt.fractionBits
  · obtain rfl := hsub hlt
    have h1 : ¬ fmt.maxExponent * 2 ^ fmt.fractionBits ≤ 0 * 2 ^ fmt.fractionBits + N := by
      have := Nat.mul_le_mul_right (2 ^ fmt.fractionBits) (show 1 ≤ fmt.maxExponent by omega)
      omega
    refine ⟨fun h => absurd h h1, fun h => absurd h (not_le.mpr ?_)⟩
    calc (N : ℝ) * 2 ^ lsb ≤ 2 ^ ((fmt.fractionBits : ℤ) + 1) * 2 ^ lsb := mul_le_mul_of_nonneg_right hNr hl.le
      _ = 2 ^ ((fmt.fractionBits : ℤ) + 1 + lsb) := (zpow_add₀ (by norm_num) _ _).symm
      _ < 2 ^ ((fmt.bias : ℤ) + 1) := zpow_lt_zpow_right₀ (by norm_num) (by omega)
  · by_cases htop : N < 2 ^ (fmt.fractionBits + 1)
    · have hNr' : (N : ℝ) < 2 ^ ((fmt.fractionBits : ℤ) + 1) := by
        rw [show ((fmt.fractionBits : ℤ) + 1) = ((fmt.fractionBits + 1 : ℕ) : ℤ) by push_cast; rfl, zpow_natCast]
        exact_mod_cast htop
      have hNr0 : (2 : ℝ) ^ (fmt.fractionBits : ℤ) ≤ N := by rw [zpow_natCast]; exact_mod_cast Nat.not_lt.mp hlt
      have hlo : (2 : ℝ) ^ ((fmt.fractionBits : ℤ) + lsb) ≤ N * 2 ^ lsb := by
        rw [zpow_add₀ (by norm_num)]; exact mul_le_mul_of_nonneg_right hNr0 hl.le
      have hhi : (N : ℝ) * 2 ^ lsb < 2 ^ ((fmt.fractionBits : ℤ) + lsb + 1) := by
        rw [show (fmt.fractionBits : ℤ) + lsb + 1 = (fmt.fractionBits : ℤ) + 1 + lsb by ring, zpow_add₀ (by norm_num)]
        exact mul_lt_mul_of_pos_right hNr' hl
      have hnat : fmt.maxExponent * 2 ^ fmt.fractionBits ≤ field * 2 ^ fmt.fractionBits + N ↔ fmt.maxExponent ≤ field + 1 := by
        constructor
        · intro h; by_contra hc
          have := Nat.mul_le_mul_right (2 ^ fmt.fractionBits) (show field + 2 ≤ fmt.maxExponent by omega)
          rw [Nat.add_mul] at this; omega
        · intro h
          have := Nat.mul_le_mul_right (2 ^ fmt.fractionBits) h
          rw [Nat.add_mul] at this; omega
      rw [hnat]
      constructor
      · intro h
        exact le_trans (zpow_le_zpow_right₀ (by norm_num) (by omega)) hlo
      · intro h
        have := (zpow_lt_zpow_iff_right₀ (by norm_num : (1 : ℝ) < 2)).mp (lt_of_le_of_lt h hhi)
        omega
    · obtain rfl : N = 2 ^ (fmt.fractionBits + 1) := by omega
      have he : ((2 ^ (fmt.fractionBits + 1) : ℕ) : ℝ) * 2 ^ lsb = 2 ^ ((fmt.fractionBits : ℤ) + 1 + lsb) := by
        rw [zpow_add₀ (by norm_num), show ((fmt.fractionBits : ℤ) + 1) = ((fmt.fractionBits + 1 : ℕ) : ℤ) by push_cast; rfl,
          zpow_natCast]
        push_cast; rfl
      have hnat : fmt.maxExponent * 2 ^ fmt.fractionBits ≤ field * 2 ^ fmt.fractionBits + 2 ^ (fmt.fractionBits + 1)
          ↔ fmt.maxExponent ≤ field + 2 := by
        rw [h2, ← Nat.add_mul]
        exact ⟨fun h => Nat.le_of_mul_le_mul_right h hpos, fun h => Nat.mul_le_mul_right _ h⟩
      rw [he, hnat, zpow_le_zpow_iff_right₀ (by norm_num : (1 : ℝ) < 2)]
      omega

theorem exc_zero_or (a : FpExc) : excNone ||| a = a := by simp [excNone]

/-- What the integer part kept and the part cut from `m` say of `u` in units of `2^lsb`. -/
theorem cut_spec {fmt : FpFormat} {m : ℕ} {e lsb : ℤ} {u : ℝ} (h : StandsFor fmt m e u)
    (hx : lsb ≤ e + 1 → u = m * 2 ^ e) :
    let shift := (lsb - e).toNat
    let kept := if lsb ≤ e then m <<< (e - lsb).toNat else m >>> shift
    let cut := if lsb ≤ e then 0 else m % (1 <<< shift)
    let half := if lsb ≤ e then Ordering.lt else compare (2 * cut) (1 <<< shift)
    (kept : ℝ) ≤ u / 2 ^ lsb ∧ u / 2 ^ lsb < kept + 1 ∧ ((cut != 0) = true ↔ u / 2 ^ lsb ≠ kept)
      ∧ (half = .gt ↔ (kept : ℝ) + 1 / 2 < u / 2 ^ lsb) ∧ (half = .eq ↔ u / 2 ^ lsb = kept + 1 / 2) := by
  have hl : (0 : ℝ) < 2 ^ lsb := zpow_pos (by norm_num) _
  have he : (0 : ℝ) < 2 ^ e := zpow_pos (by norm_num) _
  by_cases hle : lsb ≤ e
  · simp only [if_pos hle, Nat.shiftLeft_eq]
    have : u / 2 ^ lsb = ((m * 2 ^ (e - lsb).toNat : ℕ) : ℝ) := by
      rw [hx (by omega), div_eq_iff hl.ne']
      push_cast
      rw [mul_assoc, ← zpow_natCast, ← zpow_add₀ (by norm_num)]
      congr 2; omega
    rw [this]
    simp
  · simp only [if_neg hle, Nat.shiftLeft_eq, Nat.one_mul, Nat.shiftRight_eq_div_pow]
    obtain ⟨S, hS⟩ : ∃ S, (lsb - e).toNat = S + 1 := ⟨(lsb - e).toNat - 1, by omega⟩
    rw [hS]
    have hlsb : (2 : ℝ) ^ lsb = 2 ^ (S + 1) * 2 ^ e := by
      rw [← zpow_natCast, ← zpow_add₀ (by norm_num)]; congr 1; omega
    have hdm := Nat.div_add_mod m (2 ^ (S + 1))
    have hmod := Nat.mod_lt m (Nat.two_pow_pos (S + 1))
    generalize m / 2 ^ (S + 1) = K at hdm
    generalize m % 2 ^ (S + 1) = C at hdm hmod
    have hpow : 2 ^ (S + 1) = 2 * 2 ^ S := by rw [pow_succ]; ring
    -- comparisons with multiples of 2^(S+1) and of 2^S
    have hle' : ∀ n : ℤ, (Even n ∨ S = 0) → ((n : ℝ) * 2 ^ e ≤ u ↔ n ≤ m) := fun n hn =>
      h.le n (hn.imp_right fun h0 => hx (by omega))
    have hge' : ∀ n : ℤ, (Even n ∨ S = 0) → (u ≤ (n : ℝ) * 2 ^ e ↔ (m : ℤ) ≤ n) := fun n hn =>
      h.ge n (hn.imp_right fun h0 => hx (by omega))
    have heven : ∀ k : ℤ, Even (k * 2 ^ (S + 1)) := fun k => ⟨k * 2 ^ S, by rw [pow_succ]; ring⟩
    have hhalf : Even ((K : ℤ) * 2 ^ (S + 1) + 2 ^ S) ∨ S = 0 := by
      rcases Nat.eq_zero_or_pos S with h0 | h0
      · exact .inr h0
      · refine .inl ((heven _).add ⟨2 ^ (S - 1), ?_⟩)
        rw [← two_mul, ← pow_succ']; congr 1; omega
    have unit : ∀ (n : ℤ) (y : ℝ), (n : ℝ) = y * 2 ^ (S + 1) → ((n : ℝ) * 2 ^ e ≤ u ↔ y ≤ u / 2 ^ lsb)
        ∧ (u ≤ (n : ℝ) * 2 ^ e ↔ u / 2 ^ lsb ≤ y) := by
      intro n y hy
      rw [le_div_iff₀ hl, div_le_iff₀ hl, hlsb, hy, mul_assoc]
      exact ⟨Iff.rfl, Iff.rfl⟩
    have uK := unit ((K : ℤ) * 2 ^ (S + 1)) K (by push_cast; ring)
    have uK1 := unit (((K : ℤ) + 1) * 2 ^ (S + 1)) (K + 1) (by push_cast; ring)
    have uH := unit ((K : ℤ) * 2 ^ (S + 1) + 2 ^ S) (K + 1 / 2) (by push_cast; ring)
    have hmZ : (m : ℤ) = K * 2 ^ (S + 1) + C := by rw [← hdm]; push_cast; ring
    have hCZ : (C : ℤ) < 2 ^ (S + 1) := by exact_mod_cast hmod
    have a1 : (K : ℝ) ≤ u / 2 ^ lsb := (uK.1.symm.trans (hle' _ (.inl (heven _)))).mpr (by omega)
    have a2 : u / 2 ^ lsb < K + 1 := by
      rw [← not_le, ← uK1.1, hle' _ (.inl (heven _)), not_le, add_mul, one_mul]; omega
    have a3 : u / 2 ^ lsb ≤ K ↔ C = 0 := by rw [← uK.2, hge' _ (.inl (heven _))]; omega
    have hpS : (2 : ℤ) ^ (S + 1) = 2 * 2 ^ S := by rw [pow_succ]; ring
    have a4 : (K : ℝ) + 1 / 2 ≤ u / 2 ^ lsb ↔ 2 ^ S ≤ C := by
      rw [← uH.1, hle' _ hhalf, hmZ, add_le_add_iff_left]; exact_mod_cast Iff.rfl
    have a5 : u / 2 ^ lsb ≤ (K : ℝ) + 1 / 2 ↔ C ≤ 2 ^ S := by
      rw [← uH.2, hge' _ hhalf, hmZ, add_le_add_iff_left]; exact_mod_cast Iff.rfl
    refine ⟨a1, a2, ?_, ?_, ?_⟩
    · rw [bne_iff_ne, not_iff_not, ← a3]
      exact ⟨fun h => le_antisymm h a1, fun h => h.le⟩
    · rw [Nat.compare_eq_gt, ← not_le (a := u / 2 ^ lsb), a5]; omega
    · rw [Nat.compare_eq_eq]
      constructor
      · intro hc; exact le_antisymm (a5.mpr (by omega)) (a4.mpr (by omega))
      · intro hc
        have := a5.mp hc.le; have := a4.mp hc.ge; omega

/-- The rounded integer is the exact one where nothing was cut, and only there. -/
theorem rounded_eq_iff {rnd : BitVec 2} {sign : Bool} {K : ℕ} {X : ℝ} {inexact : Bool} {half : Ordering}
    (h1 : X < K + 1) (hi : inexact = true ↔ X ≠ K)
    (hg : half = .gt ↔ (K : ℝ) + 1 / 2 < X) (he : half = .eq ↔ X = K + 1 / 2) :
    ((K + (if roundsUp rnd sign (K % 2 == 1) inexact half then 1 else 0) : ℕ) : ℝ) = X ↔ inexact = false := by
  cases inexact with
  | false =>
    have hX : X = K := by by_contra hn; exact absurd (hi.mpr hn) (by simp)
    have hup : roundsUp rnd sign (K % 2 == 1) false half = false := by
      have h2 : half ≠ .gt := fun h => by have := hg.mp h; rw [hX] at this; linarith
      have h3 : half ≠ .eq := fun h => by have := he.mp h; rw [hX] at this; linarith
      unfold roundsUp
      split <;> simp [h2, h3]
    simp [hup, hX]
  | true =>
    have hne := hi.mp rfl
    simp only [Bool.true_eq_false, iff_false]
    split
    · push_cast; exact fun h => absurd h h1.ne'
    · push_cast; intro h; exact hne (by linarith)

/-- `fpRound` rounds correctly whatever magnitude its significand stands for. -/
theorem fpRound_roundsTo {fmt : FpFormat} {m : ℕ} {e : ℤ} {u : ℝ} (rnd : BitVec 2) (ufm sign : Bool) (hm : m ≠ 0)
    (h : StandsFor fmt m e u) : RoundsTo fmt rnd ufm (if sign then -u else u) (fpRound fmt rnd ufm sign m e) := by
  have he : (0 : ℝ) < 2 ^ e := zpow_pos (by norm_num) _
  have hL0 := log2_le hm
  have hL1 := lt_log2 hm
  have henough := h.enough
  unfold fpRound
  rw [if_neg hm]
  generalize Nat.log2 m = L at hL0 hL1 henough
  -- the binade of u
  have pow2 : ∀ k : ℕ, ((2 ^ k : ℤ) : ℝ) * 2 ^ e = 2 ^ (e + k) := by
    intro k; rw [zpow_add₀ (by norm_num), zpow_natCast]; push_cast; ring
  have hE0 : (2 : ℝ) ^ (e + L) ≤ u := by
    rw [← pow2]
    refine (h.le _ ?_).mpr (by exact_mod_cast hL0)
    rcases henough with hx | hx
    · exact .inr hx
    · exact .inl ⟨2 ^ (L - 1), by rw [← two_mul, ← pow_succ']; congr 1; omega⟩
  have hE1 : u < (2 : ℝ) ^ (e + L + 1) := by
    rw [add_assoc, show ((L : ℤ) + 1) = ((L + 1 : ℕ) : ℤ) by push_cast; rfl, ← pow2]
    by_contra hc
    have := (h.le _ (.inl ⟨2 ^ L, by rw [← two_mul, ← pow_succ']⟩)).mp (not_lt.mp hc)
    have : 2 ^ (L + 1) ≤ m := by exact_mod_cast this
    omega
  have hu : 0 < u := lt_of_lt_of_le (zpow_pos (by norm_num) _) hE0
  have habs : |if sign = true then -u else u| = u := by cases sign <;> simp [abs_of_pos hu]
  -- the last bit kept
  have hlsb : (if decide (e + (L : ℤ) < 1 - (fmt.bias : ℤ)) = true then 1 - (fmt.bias : ℤ) else e + L) - (fmt.fractionBits : ℤ)
      = max (e + L) (1 - (fmt.bias : ℤ)) - fmt.fractionBits := by
    by_cases ht : e + (L : ℤ) < 1 - (fmt.bias : ℤ)
    · simp [ht, max_eq_right ht.le]
    · simp [ht, max_eq_left (not_lt.mp ht)]
  simp only [hlsb]
  generalize hg : max (e + L) (1 - (fmt.bias : ℤ)) - fmt.fractionBits = lsb
  have hl : (0 : ℝ) < 2 ^ lsb := zpow_pos (by norm_num) _
  have hx : lsb ≤ e + 1 → u = m * 2 ^ e := fun hle => henough.resolve_right (by omega)
  obtain ⟨c1, c2, c3, c4, c5⟩ := cut_spec h hx
  generalize (if lsb ≤ e then m <<< (e - lsb).toNat else m >>> (lsb - e).toNat) = K at c1 c2 c3 c4 c5 ⊢
  generalize (if lsb ≤ e then Ordering.lt else
    compare (2 * if lsb ≤ e then 0 else m % (1 <<< (lsb - e).toNat)) (1 <<< (lsb - e).toNat)) = half at c4 c5 ⊢
  generalize ((if lsb ≤ e then 0 else m % 1 <<< (lsb - e).toNat) != 0) = inexact at c3 ⊢
  have hround := roundsToInt_roundsUp rnd sign K (u / 2 ^ lsb) inexact half c1 c2 c3 c4 c5
  have hexact := rounded_eq_iff (rnd := rnd) (sign := sign) c2 c3 c4 c5
  have hNK : K ≤ K + (if roundsUp rnd sign (K % 2 == 1) inexact half then 1 else 0) := Nat.le_add_right _ _
  have hNK1 : K + (if roundsUp rnd sign (K % 2 == 1) inexact half then 1 else 0) ≤ K + 1 := by split <;> simp
  generalize K + (if roundsUp rnd sign (K % 2 == 1) inexact half then 1 else 0) = N at hround hexact hNK hNK1 ⊢
  obtain ⟨field, hfield⟩ : ∃ f : ℕ, f = if decide (e + (L : ℤ) < 1 - (fmt.bias : ℤ)) = true then 0
    else (e + (L : ℤ) + (fmt.bias : ℤ) - 1).toNat := ⟨_, rfl⟩
  rw [← hfield]
  -- the size of N
  have hK1 : K < 2 ^ (fmt.fractionBits + 1) := by
    have h1 : (K : ℝ) < 2 ^ ((fmt.fractionBits : ℤ) + 1) := by
      refine lt_of_le_of_lt c1 ((div_lt_iff₀ hl).mpr ?_)
      rw [← zpow_add₀ (by norm_num)]
      exact lt_of_lt_of_le hE1 (zpow_le_zpow_right₀ (by norm_num) (by omega))
    rw [show ((fmt.fractionBits : ℤ) + 1) = ((fmt.fractionBits + 1 : ℕ) : ℤ) by push_cast; rfl, zpow_natCast] at h1
    exact_mod_cast h1
  have hfl : lsb = (field : ℤ) + 1 - fmt.bias - fmt.fractionBits := by
    rw [hfield]; split <;> simp at * <;> omega
  have hsub : N < 2 ^ fmt.fractionBits → field = 0 := by
    intro hN
    by_contra hf
    have hEl : e + (L : ℤ) = lsb + fmt.fractionBits := by
      by_contra hc
      apply hf; rw [hfield, if_pos (by simp; omega)]
    rw [hEl, zpow_add₀ (by norm_num), zpow_natCast] at hE0
    have h1 : (2 : ℝ) ^ fmt.fractionBits ≤ u / 2 ^ lsb := (le_div_iff₀ hl).mpr (by linarith)
    have h2 : (2 : ℝ) ^ fmt.fractionBits < K + 1 := lt_of_le_of_lt h1 c2
    have h3 : 2 ^ fmt.fractionBits < K + 1 := by exact_mod_cast h2
    omega
  have hover := rounded_overflows_iff fmt (N := N) (by omega) hfl hsub
  rw [Nat.shiftLeft_eq, Nat.shiftLeft_eq]
  have hwabs : |(((if sign = true then -1 else 1) * (N : ℤ) : ℤ) : ℝ) * 2 ^ lsb| = N * 2 ^ lsb := by
    cases sign <;> simp [abs_mul, abs_of_pos hl]
  have hwv : (((if sign = true then -1 else 1) * (N : ℤ) : ℤ) : ℝ) * 2 ^ lsb = (if sign = true then -u else u)
      ↔ inexact = false := by
    rw [← hexact, eq_div_iff hl.ne']
    cases sign <;> simp
  refine ⟨sign, e + L, (if sign then -1 else 1) * (N : ℤ), ?_, by rwa [habs], by rwa [habs], ?_⟩
  · cases sign <;> simp [hu, hu.le]
  · simp only [hg, hwabs, ne_eq, hwv]
    refine ⟨?_, fun hlt => ?_, fun hle => ?_⟩
    · convert hround using 1
      cases sign <;> simp [neg_div]
    · rw [if_neg (fun hc => absurd (hover.mp hc) (not_le.mpr hlt))]
      refine ⟨unpack_rounded fmt sign (by omega) hfl hsub (by rw [← not_le, hover, not_le]; exact hlt), ?_⟩
      cases inexact <;> cases ufm <;> simp
    · rw [if_pos (hover.mpr hle)]
      refine ⟨rfl, ?_⟩
      have hr : (rnd == 0 || rnd == 2 && !sign || rnd == 3 && sign) = overflowsToInfinity rnd sign := by
        unfold overflowsToInfinity; cases sign <;> simp
      simp only [hr]
      cases overflowsToInfinity rnd sign
      · simp [fpUnpack_fpLargest]
      · simp [fpUnpack_fpInfinity]

/-! ### What the operations hand to the rounding -/

theorem isqrtFrom_spec (k n r : ℕ) (h0 : r * r ≤ n) (h1 : n < (r + 2 ^ k) * (r + 2 ^ k)) :
    isqrtFrom k n r * isqrtFrom k n r ≤ n ∧ n < (isqrtFrom k n r + 1) * (isqrtFrom k n r + 1) := by
  induction k generalizing r with
  | zero => simpa [isqrtFrom] using ⟨h0, h1⟩
  | succ k ih =>
    rw [isqrtFrom, Nat.shiftLeft_eq, Nat.one_mul]
    split
    · next h => exact ih _ h (by rwa [Nat.add_assoc, ← Nat.two_mul, ← Nat.pow_succ'])
    · next h => exact ih _ h0 (Nat.not_le.mp h)

/-- The fuel of `fpSqrt` is enough: the root is the integer part of the real one. -/
theorem isqrt_spec (n : ℕ) : let r := isqrtFrom (Nat.log2 n / 2 + 1) n 0
    r * r ≤ n ∧ n < (r + 1) * (r + 1) := by
  refine isqrtFrom_spec _ _ _ (Nat.zero_le _) ?_
  rcases Nat.eq_zero_or_pos n with rfl | hn
  · simp
  · have := lt_log2 hn.ne'
    rw [Nat.zero_add, ← pow_add]
    exact this.trans_le (Nat.pow_le_pow_right (by norm_num) (by omega))

/-- A significand shifted to a common exponent keeps its value. -/
theorem shiftLeft_value (m : ℕ) {e lo : ℤ} (h : lo ≤ e) : ((m <<< (e - lo).toNat : ℕ) : ℝ) * 2 ^ lo = m * 2 ^ e := by
  rw [Nat.shiftLeft_eq]; push_cast
  rw [mul_assoc, ← zpow_natCast, ← zpow_add₀ (by norm_num)]
  congr 2; omega

theorem signedSignificand_value (s : Bool) (m : ℕ) : ((signedSignificand s m : ℤ) : ℝ) = (if s then -1 else 1) * m := by
  cases s <;> simp [signedSignificand]

/-- A signed exact value, rounded. -/
theorem fpRound_roundsTo_signed (fmt : FpFormat) (rnd : BitVec 2) (ufm : Bool) (n : ℤ) (e : ℤ) (hn : n ≠ 0) :
    RoundsTo fmt rnd ufm (n * 2 ^ e) (fpRound fmt rnd ufm (decide (n < 0)) n.natAbs e) := by
  have := fpRound_roundsTo rnd ufm (decide (n < 0)) (by omega : n.natAbs ≠ 0) (standsFor_exact fmt n.natAbs e)
  convert this using 1
  have h : ((n.natAbs : ℕ) : ℝ) = |(n : ℝ)| := by rw [← Int.cast_natCast]; simp
  rw [h]
  by_cases hc : n < 0
  · simp [hc, abs_of_neg (show (n : ℝ) < 0 by exact_mod_cast hc)]
  · simp [hc, abs_of_nonneg (show (0 : ℝ) ≤ n by exact_mod_cast not_lt.mp hc)]

theorem fpRound_zero (fmt : FpFormat) (rnd : BitVec 2) (ufm s : Bool) (e : ℤ) : (fpRound fmt rnd ufm s 0 e).IsZero fmt s := by
  unfold fpRound FpResult.IsZero; simp [fpUnpack_fpZero]

end Sys2Proof.Machine
end

