-- ==== Sys2Proof/Tests/Slice0.lean ====
section
/-! SUPPORT. Tests: the well-formedness checks, the decoding and encoding of the spec's example words, single steps of
spec/95_test_vectors.md, and for every statement with hypotheses a concrete state and operands that meet them. -/

set_option Elab.async false

namespace Sys2Proof.Tests
open Sys2Proof.Machine

/-! ### Well-formedness: one ill-formed term for each check -/

/-- SETHI 0, r[0] is the NOP word (R158). -/
theorem test_wf_refuses_sethi_nop : (Instr.sethi 0 0).wf = false := by decide
/-- RDASR 0 is the RDY word (R158). -/
theorem test_wf_refuses_rdasr_y : (Instr.rdasr 3 0).wf = false := by decide
/-- RDASR 15 with rd = 0 is the STBAR word (R158). -/
theorem test_wf_refuses_rdasr_stbar : (Instr.rdasr 0 15).wf = false := by decide
/-- WRASR 0 is the WRY word (R158). -/
theorem test_wf_refuses_wrasr_y : (Instr.wrasr 0 1 (.imm 5)).wf = false := by decide
theorem test_wf_accepts_neighbours :
    [Instr.sethi 0 1, .sethi 1 0, .rdasr 3 1, .rdasr 1 15, .rdasr 0 14, .wrasr 1 0 (.imm 0)].all Instr.wf = true := by decide

/-! ### Decoding: the words the spec prints with its instructions (40 to 45, 60 for RETT) decode, and encode back -/

/-- Each word is the instruction's, through the decoder and through the encoder. -/
def reads (l : List (Nat × Instr)) : Bool :=
  l.all fun p => decide (decodeTableWord 32 p.1 = some p.2) && decide (encode p.2 = BitVec.ofNat 32 p.1) && p.2.wf

theorem test_decode_memory_1 : reads [
    (0xD24A2001, .ldsb 9 8 (.imm 1)), (0xD252000A, .ldsh 9 8 (.reg 10)), (0xD20A0000, .ldub 9 8 (.reg 0)),
    (0xD2122002, .lduh 9 8 (.imm 2)), (0xE007BFFC, .ld 16 30 (.imm 8188)), (0xD41A0000, .ldd 10 8 (.reg 0)),
    (0xD2CA0160, .ldsba 9 8 false 0x0B 0), (0xD2D20160, .ldsha 9 8 false 0x0B 0), (0xD28A0140, .lduba 9 8 false 0x0A 0),
    (0xD2920140, .lduha 9 8 false 0x0A 0), (0xD2820140, .lda 9 8 false 0x0A 0), (0xD49A0169, .ldda 10 8 false 0x0B 9),
    (0xC3020000, .ldf 1 8 (.reg 0)), (0xC51A2008, .lddf 2 8 (.imm 8)), (0xC10A0000, .ldfsr 0 8 (.reg 0)),
    (0xC3820000, .ldc 1 8 (.reg 0))] = true := by decide
theorem test_decode_memory_2 : reads [
    (0xC59A0000, .lddc 2 8 (.reg 0)), (0xC18A0000, .ldcsr 0 8 (.reg 0)), (0xD22A2003, .stb 9 8 (.imm 3)),
    (0xD2322002, .sth 9 8 (.imm 2)), (0xD2220000, .st 9 8 (.reg 0)), (0xD43A0000, .std 10 8 (.reg 0)),
    (0xD2AA0160, .stba 9 8 false 0x0B 0), (0xD2B20160, .stha 9 8 false 0x0B 0), (0xD2A20140, .sta 9 8 false 0x0A 0),
    (0xD4BA0160, .stda 10 8 false 0x0B 0), (0xC3220000, .stf 1 8 (.reg 0)), (0xC53A2008, .stdf 2 8 (.imm 8)),
    (0xC12A0000, .stfsr 0 8 (.reg 0)), (0xC1320000, .stdfq 0 8 (.reg 0)), (0xC3A20000, .stc 1 8 (.reg 0)),
    (0xC5BA0000, .stdc 2 8 (.reg 0))] = true := by decide
theorem test_decode_memory_3 : reads [
    (0xC1AA0000, .stcsr 0 8 (.reg 0)), (0xC1B20000, .stdcq 0 8 (.reg 0)), (0xD26A0000, .ldstub 9 8 (.reg 0)),
    (0xD2EA0160, .ldstuba 9 8 false 0x0B 0), (0xD27A0000, .swap 9 8 (.reg 0)),
    (0xD2FA0160, .swapa 9 8 false 0x0B 0)] = true := by decide
theorem test_decode_logical_1 : reads [
    (0x11048D15, .sethi 8 0x48d15), (0x90122278, .or 8 8 (.imm 632)), (0x033FFFFF, .sethi 1 0x3fffff), (0x01000000, .nop),
    (0x940A0009, .and 10 8 (.reg 9)), (0x808A20FF, .andcc 0 8 (.imm 255)), (0x942A0009, .andn 10 8 (.reg 9)),
    (0x94AA3FFF, .andncc 10 8 (.imm 8191)), (0x90102005, .or 8 0 (.imm 5)), (0x80900008, .orcc 0 0 (.reg 8)),
    (0x94300009, .orn 10 0 (.reg 9)), (0x94B20009, .orncc 10 8 (.reg 9)), (0x941A3FFF, .xor 10 8 (.imm 8191)),
    (0x949A0008, .xorcc 10 8 (.reg 8)), (0x943A0000, .xnor 10 8 (.reg 0)),
    (0x94BA0009, .xnorcc 10 8 (.reg 9))] = true := by decide
theorem test_decode_logical_2 : reads [
    (0x932A2004, .sll 9 8 (.cnt 4)), (0x932A000A, .sll 9 8 (.reg 10)), (0x9332201F, .srl 9 8 (.cnt 31)),
    (0x933A201F, .sra 9 8 (.cnt 31))] = true := by decide
theorem test_decode_arithmetic_1 : reads [
    (0x94820009, .addcc 10 8 (.reg 9)), (0x94020009, .add 10 8 (.reg 9)), (0x90023FFF, .add 8 8 (.imm 8191)),
    (0x94402000, .addx 10 0 (.imm 0)), (0x94C20009, .addxcc 10 8 (.reg 9)), (0x95020009, .taddcc 10 8 (.reg 9)),
    (0x95120009, .taddcctv 10 8 (.reg 9)), (0x94220009, .sub 10 8 (.reg 9)), (0x80A20009, .subcc 0 8 (.reg 9)),
    (0x94620009, .subx 10 8 (.reg 9)), (0x94E20009, .subxcc 10 8 (.reg 9)), (0x950A0009, .tsubcc 10 8 (.reg 9)),
    (0x951A0009, .tsubcctv 10 8 (.reg 9)), (0x99230009, .mulscc 12 12 (.reg 9)), (0x94520009, .umul 10 8 (.reg 9)),
    (0x945A0009, .smul 10 8 (.reg 9))] = true := by decide
theorem test_decode_arithmetic_2 : reads [
    (0x945A3FFF, .smul 10 8 (.imm 8191)), (0x94D20009, .umulcc 10 8 (.reg 9)), (0x94DA0009, .smulcc 10 8 (.reg 9)),
    (0x94720009, .udiv 10 8 (.reg 9)), (0x94720000, .udiv 10 8 (.reg 0)), (0x947A0009, .sdiv 10 8 (.reg 9)),
    (0x947A2002, .sdiv 10 8 (.imm 2)), (0x94F20009, .udivcc 10 8 (.reg 9)),
    (0x94FA0009, .sdivcc 10 8 (.reg 9))] = true := by decide
theorem test_decode_control_1 : reads [
    (0x9DE3BFA0, .save 14 14 (.imm 8096)), (0x81E00000, .save 0 0 (.reg 0)), (0x81E80000, .restore 0 0 (.reg 0)),
    (0x91EA2001, .restore 8 8 (.imm 1)), (0x109FFFFF, .ba false 0x1fffff), (0x10800004, .ba false 0x4),
    (0x30BFFFFF, .ba true 0x3fffff), (0x00800004, .bn false 0x4), (0x20BFFFFF, .bn true 0x3fffff),
    (0x12800004, .bne false 0x4), (0x32BFFFFF, .bne true 0x3fffff), (0x02800004, .be false 0x4),
    (0x22BFFFFF, .be true 0x3fffff), (0x14800004, .bg false 0x4), (0x34BFFFFF, .bg true 0x3fffff),
    (0x04800004, .ble false 0x4)] = true := by decide
theorem test_decode_control_2 : reads [
    (0x24BFFFFF, .ble true 0x3fffff), (0x16800004, .bge false 0x4), (0x36BFFFFF, .bge true 0x3fffff),
    (0x06800004, .bl false 0x4), (0x26BFFFFF, .bl true 0x3fffff), (0x18800004, .bgu false 0x4),
    (0x38BFFFFF, .bgu true 0x3fffff), (0x08800004, .bleu false 0x4), (0x28BFFFFF, .bleu true 0x3fffff),
    (0x1A800004, .bcc false 0x4), (0x3ABFFFFF, .bcc true 0x3fffff), (0x0A800004, .bcs false 0x4),
    (0x2ABFFFFF, .bcs true 0x3fffff), (0x1C800004, .bpos false 0x4), (0x3CBFFFFF, .bpos true 0x3fffff),
    (0x0C800004, .bneg false 0x4)] = true := by decide
theorem test_decode_control_3 : reads [
    (0x2CBFFFFF, .bneg true 0x3fffff), (0x1E800004, .bvc false 0x4), (0x3EBFFFFF, .bvc true 0x3fffff),
    (0x0E800004, .bvs false 0x4), (0x2EBFFFFF, .bvs true 0x3fffff), (0x11800004, .fba false 0x4),
    (0x01800004, .fbn false 0x4), (0x0F800004, .fbu false 0x4), (0x0D800004, .fbg false 0x4), (0x0B800004, .fbug false 0x4),
    (0x09800004, .fbl false 0x4), (0x07800004, .fbul false 0x4), (0x05800004, .fblg false 0x4), (0x03800004, .fbne false 0x4),
    (0x13800004, .fbe false 0x4), (0x15800004, .fbue false 0x4)] = true := by decide
theorem test_decode_control_4 : reads [
    (0x17800004, .fbge false 0x4), (0x19800004, .fbuge false 0x4), (0x1B800004, .fble false 0x4),
    (0x1D800004, .fbule false 0x4), (0x1F800004, .fbo false 0x4), (0x11C00004, .cba false 0x4), (0x01C00004, .cbn false 0x4),
    (0x0FC00004, .cb3 false 0x4), (0x0DC00004, .cb2 false 0x4), (0x0BC00004, .cb23 false 0x4), (0x09C00004, .cb1 false 0x4),
    (0x07C00004, .cb13 false 0x4), (0x05C00004, .cb12 false 0x4), (0x03C00004, .cb123 false 0x4),
    (0x13C00004, .cb0 false 0x4), (0x15C00004, .cb03 false 0x4)] = true := by decide
theorem test_decode_control_5 : reads [
    (0x17C00004, .cb02 false 0x4), (0x19C00004, .cb023 false 0x4), (0x1BC00004, .cb01 false 0x4),
    (0x1DC00004, .cb013 false 0x4), (0x1FC00004, .cb012 false 0x4), (0x40000040, .call 0x40), (0x7FFFFFFE, .call 0x3ffffffe),
    (0x81C7E008, .jmpl 0 31 (.imm 8)), (0x81C3E008, .jmpl 0 15 (.imm 8)), (0x9FC20000, .jmpl 15 8 (.reg 0)),
    (0x91D04002, .ta 1 (.reg 2)), (0x91D02003, .ta 0 (.imm 3)), (0x81D02003, .tn 0 (.imm 3)), (0x93D02003, .tne 0 (.imm 3)),
    (0x83D02003, .te 0 (.imm 3)), (0x95D02003, .tg 0 (.imm 3))] = true := by decide
theorem test_decode_control_6 : reads [
    (0x85D02003, .tle 0 (.imm 3)), (0x97D02003, .tge 0 (.imm 3)), (0x87D02003, .tl 0 (.imm 3)), (0x99D02003, .tgu 0 (.imm 3)),
    (0x89D02003, .tleu 0 (.imm 3)), (0x9BD02003, .tcc 0 (.imm 3)), (0x8BD02003, .tcs 0 (.imm 3)),
    (0x9DD02003, .tpos 0 (.imm 3)), (0x8DD02003, .tneg 0 (.imm 3)), (0x9FD02003, .tvc 0 (.imm 3)),
    (0x8FD02003, .tvs 0 (.imm 3)), (0x81CC8000, .rett 18 (.reg 0)), (0x81CCA004, .rett 18 (.imm 4))] = true := by decide
theorem test_decode_state_1 : reads [
    (0x91400000, .rdy 8), (0x91444000, .rdasr 8 17), (0xA1480000, .rdpsr 16), (0xA7500000, .rdwim 19),
    (0xA9580000, .rdtbr 20), (0x81800008, .wry 0 (.reg 8)), (0x81822000, .wry 8 (.imm 0)), (0xA3802000, .wrasr 17 0 (.imm 0)),
    (0x81882FE0, .wrpsr 0 (.imm 4064)), (0x818C2020, .wrpsr 16 (.imm 32)), (0x81902002, .wrwim 0 (.imm 2)),
    (0x81903FFF, .wrwim 0 (.imm 8191)), (0x81986000, .wrtbr 1 (.imm 0)), (0x81984000, .wrtbr 1 (.reg 0)),
    (0x8143C000, .stbar), (0x0000000C, .unimp 12)] = true := by decide
theorem test_decode_state_2 : reads [
    (0x81DA0000, .flush 8 (.reg 0)), (0x81DA2008, .flush 8 (.imm 8))] = true := by decide
theorem test_decode_fpop_1 : reads [
    (0x89A01880, .fitos 4 0), (0x89A01900, .fitod 4 0), (0x89A01980, .fitoq 4 0), (0x89A01A20, .fstoi 4 0),
    (0x89A01A40, .fdtoi 4 0), (0x89A01A60, .fqtoi 4 0), (0x89A01920, .fstod 4 0), (0x89A019A0, .fstoq 4 0),
    (0x89A018C0, .fdtos 4 0), (0x89A019C0, .fdtoq 4 0), (0x89A018E0, .fqtos 4 0), (0x89A01960, .fqtod 4 0),
    (0x89A00020, .fmovs 4 0), (0x81A00020, .fmovs 0 0), (0x87A00021, .fmovs 3 1),
    (0x89A000A0, .fnegs 4 0)] = true := by decide
theorem test_decode_fpop_2 : reads [
    (0x89A00120, .fabss 4 0), (0x89A00520, .fsqrts 4 0), (0x89A00540, .fsqrtd 4 0), (0x89A00560, .fsqrtq 4 0),
    (0x91A00824, .fadds 8 0 4), (0x91A00844, .faddd 8 0 4), (0x93A00844, .faddd 9 0 4), (0x91A00864, .faddq 8 0 4),
    (0x91A008A4, .fsubs 8 0 4), (0x91A008C4, .fsubd 8 0 4), (0x91A008E4, .fsubq 8 0 4), (0x91A00924, .fmuls 8 0 4),
    (0x91A00944, .fmuld 8 0 4), (0x91A00964, .fmulq 8 0 4), (0x91A00D24, .fsmuld 8 0 4),
    (0x91A00DC4, .fdmulq 8 0 4)] = true := by decide
theorem test_decode_fpop_3 : reads [
    (0x91A009A4, .fdivs 8 0 4), (0x91A009C4, .fdivd 8 0 4), (0x91A009E4, .fdivq 8 0 4), (0x81A80A24, .fcmps 0 4),
    (0x81A80A44, .fcmpd 0 4), (0x81A80A64, .fcmpq 0 4), (0x81A80AA4, .fcmpes 0 4), (0x81A80AC4, .fcmped 0 4),
    (0x81A80AE4, .fcmpeq 0 4), (0x87B040A2, .cpop1 3 1 5 2), (0x87B840A2, .cpop2 3 1 5 2)] = true := by decide

/-- An alternate-space form that traps: i = 1 and what follows it are kept (R102). -/
theorem test_decode_alternate_immediate : reads [(0xC4806000, .lda 2 1 true 0 0)] = true := by decide
/-- A word of the STBAR row whose bit 13 is 1 is STBAR (R158; the model's choice, log 13). -/
theorem test_decode_stbar_bit_13 : decodeTableWord 32 0x8143E000 = some .stbar := by decide
/-- Words of no row (R160). -/
theorem test_decode_unassigned :
    [0x00400000, 0x80480000, 0xC0400000, 0x85A00801].all (fun v => (decodeTableWord 32 v).isNone) = true := by decide
/-- NOP, STBAR, RDY and WRY are taken before the rows they overlap (R158). -/
theorem test_decode_overlaps : reads [(0x01000000, .nop), (0x01000001, .sethi 0 1), (0x8143C000, .stbar), (0x8343C000, .rdasr 1 15),
    (0x81400000, .rdy 0), (0x81800000, .wry 0 (.reg 0))] = true := by decide

/-! ### Single steps (spec/95_test_vectors.md part 2, its start state: S = ET = EF = 1, CWP = 0, WIM = 0) -/

/-- The start state of the vectors. -/
def base : State :=
  { State.reset with pc := 0x1000, npc := 0x1004, psr := { State.reset.psr with et := true, ef := true } }

/-- Registers of window 0 set. -/
def regs (l : List (Reg × Word)) : State := l.foldl (fun s p => s.setRw 0 p.1 p.2) base

/-- f registers set. -/
def fregs (l : List (Reg × Word)) : State := l.foldl (fun s p => s.setF p.1 p.2) base

/-- %g1 = 2000 and the eight bytes of section 2.2 there. -/
def memory : State := { regs [(1, 0x2000)] with mem := memWriteBytes [] 0x2000 [0x81, 0xC2, 0xF3, 0xE4, 0x05, 0x06, 0x07, 0x08] }

/-- The result is a next state. -/
def isNext : Result → Bool
  | .next _ => true
  | .fault _ => false
  | .refused _ => false

theorem next_of {r : Result} (h : isNext r = true) : ∃ t, r = .next t := by
  cases r <;> simp_all [isNext]

/-- One step over the word `v` gives a next state where `f` reads `x`. -/
def gives {α : Type} [DecidableEq α] (v : Nat) (s : State) (f : State → α) (x : α) : Bool :=
  match step (s.withFetchWord 32 v) with
  | .next t => decide (f t = x)
  | .fault _ => false
  | .refused _ => false

/-- r[i] of window 0 after a step. -/
def g (i : Reg) (s : State) : Word := s.rw 0 i

/-- The condition codes n, z, v, c. -/
def cc (s : State) : Bool × Bool × Bool × Bool := (s.psr.icc.n, s.psr.icc.z, s.psr.icc.v, s.psr.icc.c)

theorem test_ldub : gives 0xC4086000 memory (g 2) 0x81 = true := by decide
theorem test_ldsb : gives 0xC4486000 memory (g 2) 0xFFFFFF81 = true := by decide
theorem test_ldsh : gives 0xC4506002 memory (g 2) 0xFFFFF3E4 = true := by decide
theorem test_lduh : gives 0xC4106002 memory (g 2) 0xF3E4 = true := by decide
theorem test_lduh_misaligned : gives 0xC4106001 memory (fun t => (t.tbr.tt, g 2 t)) (0x07, 0) = true := by decide
theorem test_ld : gives 0xC4006000 memory (g 2) 0x81C2F3E4 = true := by decide
theorem test_ldd : gives 0xC4186000 memory (fun t => (g 2 t, g 3 t)) (0x81C2F3E4, 0x05060708) = true := by decide
theorem test_ldd_to_zero : gives 0xC0186000 memory (fun t => (g 0 t, g 1 t)) (0, 0x05060708) = true := by decide
theorem test_st :
    gives 0xC4206000 (regs [(1, 0x2000), (2, 0xA1B2C3D4)]) (fun t => (t.byte 0x2000, t.byte 0x2003)) (0xA1,
      0xD4) = true := by decide
theorem test_stb :
    gives 0xC4286003 (regs [(1, 0x2000), (2, 0xA1B2C3D4)]) (fun t => (t.byte 0x2002, t.byte 0x2003)) (0,
      0xD4) = true := by decide
theorem test_sth :
    gives 0xC4306004 (regs [(1, 0x2000), (2, 0x81C2F3E4)]) (fun t => (t.byte 0x2004, t.byte 0x2005)) (0xF3,
      0xE4) = true := by decide
theorem test_std :
    gives 0xC4386000 (regs [(1, 0x2000), (2, 0x11223344), (3, 0x55667788)])
      (fun t => t.dword 0x2000) 0x1122334455667788 = true := by decide
theorem test_ldstub : gives 0xC4686000 memory (fun t => (g 2 t, t.byte 0x2000)) (0x81, 0xFF) = true := by decide
theorem test_swap : gives 0xC4786000 (memory.setRw 0 2 5) (fun t => (g 2 t, t.word 0x2000)) (0x81C2F3E4, 5) = true := by decide
theorem test_lda : gives 0xC4804140 memory (g 2) 0x81C2F3E4 = true := by decide
theorem test_lda_immediate_form : gives 0xC4806000 memory (fun t => t.tbr.tt) 0x02 = true := by decide
theorem test_ldf : gives 0xC1006000 memory (fun t => t.fr 0) 0x81C2F3E4 = true := by decide
theorem test_lddf_odd : gives 0xC7186000 memory (fun t => (t.tbr.tt, t.fsr.ftt)) (0x08, 6) = true := by decide
theorem test_stdfq : gives 0xC1306000 memory (fun t => (t.tbr.tt, t.fsr.ftt)) (0x08, 4) = true := by decide
theorem test_sethi : gives 0x033FFFFF base (g 1) 0xFFFFFC00 = true := by decide
theorem test_andn : gives 0x842860FF (regs [(1, 0xF0F0F0F0)]) (g 2) 0xF0F0F000 = true := by decide
theorem test_orcc_clears_v_c :
    gives 0x80900001 { regs [(1, 0xF0F0F0F0)] with psr := { base.psr with icc := ⟨false, true, true, true⟩ } } cc (true,
      false, false, false) = true := by decide
theorem test_xorcc :
    gives 0x84984001 (regs [(1, 0xF0F0F0F0)]) (fun t => (g 2 t, cc t)) (0, (false, true, false, false)) = true := by decide
theorem test_sll_count_of_33 : gives 0x85284003 (regs [(1, 1), (3, 0x21)]) (g 2) 2 = true := by decide
theorem test_sra : gives 0x85386004 (regs [(1, 0x7FFFFFF0)]) (g 2) 0x07FFFFFF = true := by decide
theorem test_addcc_overflow :
    gives 0x86804002 (regs [(1, 0x7FFFFFFF), (2, 1)]) (fun t => (g 3 t, cc t)) (0x80000000, (true, false, true,
      false)) = true := by decide
theorem test_addcc_carry :
    gives 0x86804002 (regs [(1, 0x80000000), (2, 0x80000000)]) (fun t => (g 3 t, cc t)) (0, (false, true, true,
      true)) = true := by decide
theorem test_subcc_borrow :
    gives 0x86A04002 (regs [(1, 0x7FFFFFFF), (2, 0xFFFFFFFF)]) (fun t => (g 3 t, cc t)) (0x80000000, (true, false, true,
      true)) = true := by decide
theorem test_subxcc :
    gives 0x86E04002 { regs [] with psr := { base.psr with icc := ⟨false, false, false, true⟩ } } (fun t => (g 3 t,
      cc t)) (0xFFFFFFFF, (true, false, false, true)) = true := by decide
theorem test_taddcc_tag :
    gives 0x87004002 (regs [(1, 4), (2, 9)]) (fun t => (g 3 t, cc t)) (0xD, (false, false, true, false)) = true := by decide
theorem test_tsubcctv_traps :
    gives 0x87184002 (regs [(1, 0x80000000), (2, 4)]) (fun t => (g 3 t, t.tbr.tt)) (0, 0x0A) = true := by decide
theorem test_mulscc :
    gives 0x83204002 { regs [(1, 0x80000001), (2, 5)] with y := 1, psr := { base.psr with icc := ⟨true, false, false,
      false⟩ } } (fun t => (g 1 t, cc t, t.y)) (0xC0000005, (true, false, false, false), 0x80000000) = true := by decide
theorem test_smul :
    gives 0x86584002 (regs [(1, 0xFFFFFFFE), (2, 3)]) (fun t => (g 3 t, t.y)) (0xFFFFFFFA, 0xFFFFFFFF) = true := by decide
theorem test_umulcc :
    gives 0x86D04002 (regs [(1, 0x10000), (2, 0x10000)]) (fun t => (g 3 t, t.y, cc t)) (0, 1, (false, true, false,
      false)) = true := by decide
theorem test_udivcc_overflow :
    gives 0x86F04002 { regs [(2, 2)] with y := 2 } (fun t => (g 3 t, cc t)) (0xFFFFFFFF, (true, false, true,
      false)) = true := by decide
theorem test_sdiv_truncates :
    gives 0x86784002 { regs [(1, 0xFFFFFFF9), (2, 2)] with y := 0xFFFFFFFF } (g 3) 0xFFFFFFFD = true := by decide
theorem test_save :
    gives 0x9DE3BFA0 (regs [(14, 0x3C00)]) (fun t => (t.psr.cwp, t.rw 7 14, t.rw 7 30)) (7, 0x3BA0, 0x3C00) = true := by decide
theorem test_save_overflow :
    gives 0x81E00000 { base with wim := 0x80 } (fun t => (t.tbr.tt, t.psr.cwp, t.rw 7 17, t.rw 7 18)) (0x05, 7, 0x1000,
      0x1004) = true := by decide
theorem test_restore_underflow :
    gives 0x81E80000 { base with wim := 0x01, psr := { base.psr with cwp := 7 } } (fun t => (t.tbr.tt, t.psr.cwp)) (0x06,
      6) = true := by decide
theorem test_bne_annulled :
    gives 0x32800003 { base with psr := { base.psr with icc := ⟨false, true, false, false⟩ } } (fun t => (t.pc,
      t.npc)) (0x1008, 0x100C) = true := by decide
theorem test_ba_annul : gives 0x30BFFFFF base (fun t => (t.pc, t.npc)) (0xFFC, 0x1000) = true := by decide
theorem test_bl :
    gives 0x06800004 { base with psr := { base.psr with icc := ⟨false, false, true, false⟩ } } (fun t => (t.pc,
      t.npc)) (0x1004, 0x1010) = true := by decide
theorem test_call : gives 0x40000040 base (fun t => (g 15 t, t.pc, t.npc)) (0x1000, 0x1004, 0x1100) = true := by decide
theorem test_jmpl :
    gives 0x9FC04000 (regs [(1, 0x2000)]) (fun t => (g 15 t, t.pc, t.npc)) (0x1000, 0x1004, 0x2000) = true := by decide
theorem test_rett :
    let t : State := { base.setRw 7 18 0x24 with
      wim := 2, psr := { base.psr with et := false, cwp := 7 }, haz := { Hazards.empty with prevJmpl := true } }
    gives 0x81CCA004 t (fun t => (t.psr.cwp, t.psr.s, t.psr.et, t.npc)) (0, false, true, 0x28) = true := by decide
theorem test_rett_error_mode :
    gives 0x81C84000 { regs [(1, 0x26)] with psr := { base.psr with et := false } } (fun t => (t.errorMode,
      t.tbr.tt)) (true, 0x07) = true := by decide
theorem test_ta_number : gives 0x91D04002 (regs [(1, 0x1FF), (2, 2)]) (fun t => t.tbr.tt) 0x81 = true := by decide
theorem test_tne_vector : gives 0x93D02010 { base with tbr := { tba := 1, tt := 0 } } (fun t => t.pc) 0x1900 = true := by decide
theorem test_rdpsr :
    let psr : Psr := ⟨⟨true, false, false, true⟩, false, true, 5, true, false, true, 3⟩
    gives 0x83480000 { base with psr := psr } (g 1) 0x009015A3 = true := by decide
theorem test_wrpsr_bad_window : gives 0x8188201F base (fun t => t.tbr.tt) 0x02 = true := by decide
theorem test_wrwim : gives 0x81903FFF base (fun t => t.wim) 0xFF = true := by decide
theorem test_wrtbr : gives 0x81986000 (regs [(1, 0x12345678)]) (fun t => (t.tbr.tba, t.tbr.tt)) (0x12345, 0) = true := by decide
theorem test_fadds_tie :
    gives 0x85A00821 (fregs [(0, 0x3F800000), (1, 0x33800000)]) (fun t => (t.fr 2, t.fsr.cexc)) (0x3F800000,
      1) = true := by decide
theorem test_fadds_up :
    gives 0x85A00821 { fregs [(0, 0x3F800000), (1, 0x33800000)] with fsr := { base.fsr with rd := 2 } }
      (fun t => t.fr 2) 0x3F800001 = true := by decide
theorem test_fmuls_overflow :
    gives 0x85A00921 (fregs [(0, 0x7F7FFFFF), (1, 0x40000000)]) (fun t => (t.fr 2, t.fsr.cexc)) (0x7F800000,
      9) = true := by decide
theorem test_fdivs :
    gives 0x85A009A1 (fregs [(0, 0x3F800000), (1, 0x40400000)]) (fun t => (t.fr 2, t.fsr.cexc)) (0x3EAAAAAB,
      1) = true := by decide
theorem test_fdivs_by_zero_traps :
    gives 0x85A009A1 { fregs [(0, 0x3F800000)] with fsr := { base.fsr with tem := 2 } } (fun t => (t.tbr.tt, t.fsr.ftt,
      t.fsr.cexc)) (0x08, 1, 2) = true := by decide
theorem test_fsqrts :
    gives 0x83A00520 (fregs [(0, 0x40000000)]) (fun t => (t.fr 1, t.fsr.cexc)) (0x3FB504F3, 1) = true := by decide
theorem test_fitos :
    gives 0x83A01880 (fregs [(0, 0x01000001)]) (fun t => (t.fr 1, t.fsr.cexc)) (0x4B800000, 1) = true := by decide
theorem test_fstoi :
    gives 0x83A01A20 (fregs [(0, 0xC0200000)]) (fun t => (t.fr 1, t.fsr.cexc)) (0xFFFFFFFE, 1) = true := by decide
theorem test_fstod :
    gives 0x85A01920 (fregs [(0, 0x3DCCCCCD)]) (fun t => (t.fr 2, t.fr 3)) (0x3FB99999, 0xA0000000) = true := by decide
theorem test_fsmuld :
    gives 0x85A00D21 (fregs [(0, 0x3DCCCCCD), (1, 0x3DCCCCCD)]) (fun t => (t.fr 2, t.fr 3)) (0x3F847AE1,
      0x51EB8520) = true := by decide
theorem test_fcmps_unordered :
    gives 0x81A80A21 (fregs [(0, 0x3F800000), (1, 0x7FC00000)]) (fun t => (t.fsr.fcc, t.fsr.cexc)) (3, 0) = true := by decide
theorem test_fcmpes_quiet_nan :
    gives 0x81A80AA1 (fregs [(0, 0x3F800000), (1, 0x7FC00000)]) (fun t => (t.fsr.fcc, t.fsr.cexc)) (3, 0x10) = true := by decide
theorem test_unimp_in_user_mode :
    gives 0x00000000 { base with tbr := { tba := 1, tt := 0 }, psr := { base.psr with s := false, cwp := 2 } }
      (fun t => (t.psr.ps, t.psr.s, t.psr.cwp, t.rw 1 17, t.pc)) (false, true, 1, 0x1000, 0x1020) = true := by decide
theorem test_interrupt_15 :
    gives 0x01000000 { base with irl := [15], psr := { base.psr with pil := 15 }, tbr := { tba := 1, tt := 0 } }
      (fun t => (t.tbr.tt, t.pc)) (0x1F, 0x11F0) = true := by decide
theorem test_interrupt_at_pil :
    gives 0x01000000 { base with irl := [5], psr := { base.psr with pil := 5 } } (fun t => t.pc) 0x1004 = true := by decide
theorem test_flush_counts :
    gives 0x81DA0000 { regs [(8, 0x2004)] with flushPending := [(0x2000, .dirty)] } (fun t => t.flushPending) [(0x2000,
      .counting 5)] = true := by decide
theorem test_pc_wraps :
    gives 0x01000000 { base with pc := 0xFFFFFFF8, npc := 0xFFFFFFFC } (fun t => (t.pc, t.npc)) (0xFFFFFFFC,
      0) = true := by decide

/-- A fault map may answer words and not bytes at one address (R6, R112). -/
theorem test_fault_of_one_size :
    let s : State := { base with memFaults := [⟨0x0B, .load, some 4, 0x2000, 0x2003, .exception⟩] }
    s.memFault 0x0B 0x2000 4 .load = some .exception ∧ s.memFault 0x0B 0x2000 1 .load = none := by decide
/-- A WRPSR beside an open quirk keeps both old PILs (R620). -/
theorem test_wrpsr_keeps_quirks :
    let psr : Psr := { base.psr with et := false, pil := 5 }
    gives 0x818826A0 { base with psr := psr, haz := { Hazards.empty with pilQuirks := [⟨2, 4⟩] } } (fun t => t.haz.pilQuirks)
      [⟨3, 5⟩, ⟨1, 4⟩] = true := by decide
/-- A trap entry is one step of a quirk, not its end (R620, R714). -/
theorem test_quirk_outlives_trap :
    gives 0x91D02003 { base with haz := { Hazards.empty with pilQuirks := [⟨2, 5⟩, ⟨1, 7⟩] } }
      (fun t => (t.tbr.tt, t.haz.pilQuirks)) (0x83, [⟨1, 5⟩]) = true := by decide

/-! ### Witnesses: states and operands that meet the hypotheses of each statement -/

theorem base_inv : base.Inv := by
  constructor <;> first
    | decide
    | trivial

theorem base_settled : base.Settled := by constructor <;> rfl

/-- `base` in user mode. -/
def user : State := { base with psr := { base.psr with s := false } }

/-- `base` with traps disabled. -/
def noTraps : State := { base with psr := { base.psr with et := false } }

/-- `base` with the FPU disabled. -/
def noFpu : State := { base with psr := { base.psr with ef := false } }

/-- `base` where every access of `kind` to the supervisor data or instruction space at 0x2000 to 0x2FFF, or at PC, fails. -/
def faulting (kind : AccessKind) (f : AccessFault) : State :=
  { regs [(1, 0x2000)] with
    memFaults := [⟨0x0B, kind, none, 0x2000, 0x2FFF, f⟩, ⟨0x09, kind, none, 0x1000, 0x1003, f⟩] }

/-- `s` inside an open WRY window and an open WRTBR window. -/
def delayed (s : State) : State :=
  { s with haz := { Hazards.empty with y := { count := 2, old := some 1 }, tbr := { count := 1, old := some 7 } } }

theorem test_witness_EveryStepKeepsInvariant : base.Inv ∧ ∃ t, step base = .next t := ⟨base_inv, next_of (by decide)⟩

theorem test_witness_DecodeInvertsEncode : (Instr.sethi 0 1).wf = true ∧ (Instr.wrasr 31 0 (.imm 0x1FFF)).wf = true
    ∧ decodeBytes 0x01 0 0 0 = .ok .nop ∧ decodeBytes 0xFF 0xFF 0xFF 0xFF ≠ .ok .nop := by decide

theorem test_witness_StepRunsDecodedInstruction :
    let s := base.withFetchWord 32 0x01000000
    s.errorMode = false ∧ s.interruptTaken = false ∧ s.memFault s.iasi s.pc 4 .fetch = none
      ∧ flushFind s.flushPending (doublewordOf s.pc) = none
      ∧ decodeBytes (s.byte s.pc) (s.byte (s.pc + 1)) (s.byte (s.pc + 2)) (s.byte (s.pc + 3)) = .ok .nop := by decide

theorem test_witness_StepRunsDecodedInstruction_next : ∃ t, exec .nop base = .next t := ⟨_, rfl⟩

theorem test_witness_UnassignedWordsTrap :
    (opField 0x00400000 = 0 ∧ op2Field 0x00400000 = 1) ∧ (opField 0x01400000 = 0 ∧ op2Field 0x01400000 = 5)
    ∧ (opField 0x80480000 = 2 ∧ op3Field 0x80480000 = 0x09) ∧ (opField 0x81F80000 = 2 ∧ op3Field 0x81F80000 = 0x3F)
    ∧ (opField 0xC0400000 = 3 ∧ op3Field 0xC0400000 = 0x08) ∧ (opField 0xC1F80000 = 3 ∧ op3Field 0xC1F80000 = 0x3F)
    ∧ noFpu.efRead = false ∧ base.efRead = true := by decide

theorem test_witness_UnassignedWordsTrap_fpop : (opField 0x85A00801 = 2 ∧ op3Field 0x85A00801 = 0x34)
    ∧ (opField 0x81A80821 = 2 ∧ op3Field 0x81A80821 = 0x35)
    ∧ (∀ i, decodeWord 0x85A00801 ≠ .ok i) ∧ ∀ i, decodeWord 0x81A80821 ≠ .ok i := by
  have h1 : decodeWord 0x85A00801 = .error .unassignedFpop1 := by decide
  have h2 : decodeWord 0x81A80821 = .error .unassignedFpop2 := by decide
  refine ⟨by decide, by decide, fun i h => ?_, fun i h => ?_⟩
  · rw [h1] at h; simp at h
  · rw [h2] at h; simp at h

theorem test_witness_RegisterZeroIsConstant :
    let s := regs [(1, 0x2000)]
    (s.ea 1 (.imm 0)).toNat % 4 = 0 ∧ s.memFault s.dasi (s.ea 1 (.imm 0)) 4 .atomic = none
      ∧ s.memFault s.dasi (s.ea 1 (.imm 0)) 4 .store = none ∧ memWf s.mem = true ∧ (s.ea 1 (.imm 1)).toNat % 2 ≠ 0 := by decide

theorem test_witness_AdjacentWindowsOverlap : 7 < Config.nwindows ∧ 0 < 8 ∧ 7 < 8 ∧ sameReg 7 (BitVec.ofNat 5 23) 7 23 := by
  refine ⟨by decide, by decide, by decide, ?_⟩
  unfold sameReg; decide

theorem test_witness_RegisterWriteIsReadBack : (8 : Reg) ≠ 0 ∧ sameReg 0 8 7 24 ∧ ¬ sameReg 0 8 0 9 := by
  unfold sameReg; decide

/-- Tag bits set, no tag bit and no overflow, overflow without tag bits. -/
theorem test_witness_TaggedResults :
    let trapped (a b : Word) := decide (a.toNat % 4 ≠ 0 ∨ b.toNat % 4 ≠ 0) || (addIcc a b false).v
    trapped 4 9 = true ∧ trapped 0x7FFFFFFC 4 = true ∧ trapped 4 8 = false
      ∧ (regs [(1, 4), (2, 9)]).r 1 = 4 ∧ (regs [(1, 4), (2, 9)]).op2 (.reg 2) = 9 := by decide

theorem test_witness_DivideResults : base.op2 (.imm 1) ≠ 0 := by decide

theorem test_witness_DivisionByZeroTraps : base.op2 (.imm 0) = 0 := by decide

/-- Just below and at the overflow of each divide. -/
theorem test_witness_QuotientArithmetic : (2 : Word) ≠ 0
    ∧ (unsignedQuotient 1 0xFFFFFFFF 2).ovf = false ∧ (unsignedQuotient 2 0 2).ovf = true
    ∧ (signedQuotient 0 0x7FFFFFFF 1).ovf = false ∧ (signedQuotient 0 0x80000000 1).ovf = true
    ∧ (signedQuotient 0xFFFFFFFF 0x80000000 1).ovf = false ∧ (signedQuotient 0xFFFFFFFF 0x7FFFFFFF 1).ovf = true
    ∧ (signedQuotient 0xFFFFFFFF 0xFFFFFFFD 2).rem.toInt ≠ 0 := by decide

theorem test_witness_SaveRestoreChangeWindow :
    let s := delayed base
    s.haz.psr.count = 0 ∧ s.haz.wim.count = 0 ∧ s.haz.y.count ≠ 0 ∧ s.haz.tbr.count ≠ 0 ∧ s.window < Config.nwindows
      ∧ s.wim.getLsbD ((s.window + Config.nwindows - 1) % Config.nwindows) = false
      ∧ s.wim.getLsbD ((s.window + 1) % Config.nwindows) = false := by decide

theorem test_witness_SaveRestoreTrapOnInvalidWindow :
    let s := delayed { base with wim := 0x82 }
    s.haz.psr.count = 0 ∧ s.haz.wim.count = 0 ∧ s.window < Config.nwindows
      ∧ s.wim.getLsbD ((s.window + Config.nwindows - 1) % Config.nwindows) = true
      ∧ s.wim.getLsbD ((s.window + 1) % Config.nwindows) = true := by decide

theorem test_witness_IntegerBranches : base.haz.prevCondBranch = false
    ∧ { base with haz := { Hazards.empty with prevCondBranch := true } }.haz.prevCondBranch = true := by decide

theorem test_witness_FloatingPointBranches : base.efRead = true ∧ base.haz.prevCondBranch = false ∧ base.haz.ldfsrCount = 0
    ∧ base.haz.fpop2Prev = false
    ∧ { base with haz := { Hazards.empty with prevCondBranch := true } }.haz.prevCondBranch = true := by decide

theorem test_witness_CallAndJmplTransfer : (base.ea 0 (.imm 8)).toNat % 4 = 0 ∧ (base.ea 0 (.imm 6)).toNat % 4 ≠ 0 := by decide

theorem test_witness_RettReturnsFromTrap :
    let s := delayed noTraps
    s.haz.psr.count = 0 ∧ s.haz.wim.count = 0 ∧ s.window < Config.nwindows ∧ s.psr.et = false ∧ s.psr.s = true
      ∧ s.wim.getLsbD ((s.window + 1) % Config.nwindows) = false ∧ (s.ea 0 (.imm 8)).toNat % 4 = 0 := by decide

theorem test_witness_RettTrapsOrEntersErrorMode :
    let s := delayed base
    s.haz.psr.count = 0 ∧ s.haz.wim.count = 0 ∧ s.window < Config.nwindows ∧ s.psr.et = true ∧ s.etRead = true := by decide

theorem test_witness_RettTrapsOrEntersErrorMode_user :
    let s := delayed { noTraps with psr := { noTraps.psr with s := false } }
    s.haz.psr.count = 0 ∧ s.haz.wim.count = 0 ∧ s.window < Config.nwindows ∧ s.psr.et = false ∧ s.psr.s = false := by decide

theorem test_witness_RettTrapsOrEntersErrorMode_window :
    let s := delayed { noTraps with wim := 2 }
    s.haz.psr.count = 0 ∧ s.haz.wim.count = 0 ∧ s.window < Config.nwindows ∧ s.psr.et = false ∧ s.psr.s = true
      ∧ s.wim.getLsbD ((s.window + 1) % Config.nwindows) = true := by decide

theorem test_witness_RettTrapsOrEntersErrorMode_address :
    let s := delayed noTraps
    s.haz.psr.count = 0 ∧ s.haz.wim.count = 0 ∧ s.window < Config.nwindows ∧ s.psr.et = false ∧ s.psr.s = true
      ∧ s.wim.getLsbD ((s.window + 1) % Config.nwindows) = false ∧ (s.ea 0 (.imm 6)).toNat % 4 ≠ 0 := by decide

/-- A true and a false test, with traps enabled and disabled. -/
theorem test_witness_TrapOnConditionCodes : base.iccRead.z = false ∧ (!base.iccRead.z) = true ∧ base.trapEt = true
    ∧ noTraps.trapEt = false := by decide

/-- Outside every window the value is the field, inside one the old value where the draw is for it and the new one where it is not. -/
theorem test_witness_TrapEntrySavesAndVectors : drawnValue 0 (some 1) true 2 = 2 ∧ drawnValue 3 none true 2 = 2
    ∧ drawnValue 1 (some 1) true 2 = 1 ∧ drawnValue 3 (some 1) false 2 = 2 := by decide

/-- ET = 1 and ET = 0 outside a window, and ET = 1 inside one that did not change it. -/
theorem test_witness_RaiseEntersTrapOrErrorMode :
    let s : State := { base with haz := { Hazards.empty with psr := { PsrShadow.empty with count := 3 } } }
    base.trapEt = true ∧ noTraps.trapEt = false ∧ s.trapEt = true := by decide

/-- `base` with a request at `level`, inside the quirks of WRPSR given. -/
def asking (pil level : BitVec 4) (quirks : List PilQuirk) : State :=
  { base with irl := [level], psr := { base.psr with pil := pil }, haz := { Hazards.empty with pilQuirks := quirks } }

/-- One above PIL, and 15 at PIL 15; a request at the old PIL of a quirk, one between the two PILs, and one that both accept. -/
theorem test_witness_InterruptIsTaken :
    ((asking 4 5 []).errorMode = false ∧ (asking 4 5 []).psr.et = true ∧ (asking 4 5 []).irl = 5 :: []
      ∧ ¬ quirkOpen (asking 4 5 []) 5 ∧ accepted 4 5)
    ∧ (¬ quirkOpen (asking 15 15 []) 15 ∧ accepted 15 15)
    ∧ quirkOpen (asking 4 5 [⟨1, 5⟩]) 5 ∧ quirkOpen (asking 4 6 [⟨1, 7⟩]) 6
    ∧ ¬ quirkOpen (asking 4 6 [⟨1, 5⟩]) 6 ∧ accepted 4 6 := by
  unfold quirkOpen accepted
  refine ⟨by decide, by decide, by decide, by decide, by decide, by decide⟩

/-- Traps disabled, a request at PIL 14, and one that both PILs of a quirk reject. -/
theorem test_witness_InterruptIsIgnored : (noTraps.errorMode = false ∧ noTraps.psr.et = false)
    ∧ ((asking 14 14 []).errorMode = false ∧ ¬ quirkOpen (asking 14 14 []) 14 ∧ ¬ accepted 14 14)
    ∧ ¬ quirkOpen (asking 4 3 [⟨1, 5⟩]) 3 ∧ ¬ accepted 4 3 := by
  unfold quirkOpen accepted
  refine ⟨by decide, by decide, by decide, by decide⟩

/-- At the lowest and the highest aligned address, through the lowest and the highest assigned space. -/
theorem test_witness_LoadResults :
    (base.ea 0 (.imm 0)).toNat % 4 = 0 ∧ base.memFault base.dasi (base.ea 0 (.imm 0)) 4 .load = none
    ∧ (base.ea 0 (.imm 0x1FFC)).toNat % 4 = 0 ∧ base.memFault base.dasi (base.ea 0 (.imm 0x1FFC)) 4 .load = none
    ∧ base.sRead = true ∧ (0x08 : Asi) ∈ [(0x08 : Asi), 0x09, 0x0A, 0x0B] ∧ (0x0B : Asi) ∈ [(0x08 : Asi), 0x09, 0x0A, 0x0B]
    ∧ (base.r 0 + base.r 0).toNat % 4 = 0 ∧ base.memFault 0x08 (base.r 0 + base.r 0) 4 .load = none := by decide

theorem test_witness_DoubleLoadResults : isOdd 30 = false ∧ (base.ea 0 (.imm 0x1FF8)).toNat % 8 = 0
    ∧ base.memFault base.dasi (base.ea 0 (.imm 0x1FF8)) 8 .load = none ∧ base.sRead = true
    ∧ (base.r 0 + base.r 0).toNat % 8 = 0 ∧ base.memFault 0x0B (base.r 0 + base.r 0) 8 .load = none := by decide

theorem test_witness_FloatingPointLoadResults : base.efRead = true ∧ (base.ea 0 (.imm 0x1FFC)).toNat % 4 = 0
    ∧ base.memFault base.dasi (base.ea 0 (.imm 0x1FFC)) 4 .load = none ∧ isOdd 30 = false
    ∧ (base.ea 0 (.imm 0x1FF8)).toNat % 8 = 0 ∧ base.memFault base.dasi (base.ea 0 (.imm 0x1FF8)) 8 .load = none := by decide

theorem test_witness_StoreResults : memWf memory.mem = true ∧ (memory.ea 0 (.imm 0x1FFC)).toNat % 4 = 0
    ∧ memory.memFault memory.dasi (memory.ea 0 (.imm 0x1FFC)) 4 .store = none ∧ memory.sRead = true
    ∧ (memory.r 1 + memory.r 0).toNat % 4 = 0 ∧ memory.memFault 0x0B (memory.r 1 + memory.r 0) 4 .store = none := by decide

theorem test_witness_DoubleStoreResults : memWf memory.mem = true ∧ isOdd 0 = false ∧ (memory.ea 1 (.imm 0)).toNat % 8 = 0
    ∧ memory.memFault memory.dasi (memory.ea 1 (.imm 0)) 8 .store = none ∧ memory.sRead = true
    ∧ (memory.r 1 + memory.r 0).toNat % 8 = 0 ∧ memory.memFault 0x08 (memory.r 1 + memory.r 0) 8 .store = none := by decide

theorem test_witness_FloatingPointStoreResults : memWf memory.mem = true ∧ memory.efRead = true
    ∧ (memory.ea 1 (.imm 4)).toNat % 4 = 0 ∧ memory.memFault memory.dasi (memory.ea 1 (.imm 4)) 4 .store = none ∧ isOdd 30 = false
    ∧ (memory.ea 1 (.imm 8)).toNat % 8 = 0 ∧ memory.memFault memory.dasi (memory.ea 1 (.imm 8)) 8 .store = none := by decide

theorem test_witness_AtomicResults : memWf memory.mem = true
    ∧ (memory.memFault memory.dasi (memory.ea 1 (.imm 3)) 1 .atomic = none
      ∧ memory.memFault memory.dasi (memory.ea 1 (.imm 3)) 1 .store = none)
    ∧ (memory.memFault memory.dasi (memory.ea 1 (.imm 4)) 4 .atomic = none
      ∧ memory.memFault memory.dasi (memory.ea 1 (.imm 4)) 4 .store = none ∧ (memory.ea 1 (.imm 4)).toNat % 4 = 0)
    ∧ memory.sRead = true ∧ (memory.r 1 + memory.r 0).toNat % 4 = 0
    ∧ memory.memFault 0x0A (memory.r 1 + memory.r 0) 4 .atomic = none
    ∧ memory.memFault 0x0A (memory.r 1 + memory.r 0) 4 .store = none := by decide

theorem test_witness_MisalignedAccessTraps : (memory.ea 1 (.imm 1)).toNat % 2 ≠ 0 ∧ (memory.ea 1 (.imm 3)).toNat % 4 ≠ 0
    ∧ isOdd 0 = false ∧ (memory.ea 1 (.imm 4)).toNat % 8 ≠ 0 ∧ memory.sRead = true ∧ memory.efRead = true
    ∧ (memory.r 1 + (memory.setRw 0 2 4).r 2).toNat % 8 ≠ 0 := by decide

theorem test_witness_FaultingAccessesTrapUnassignedAreRefused_units :
    let l := faulting .load .exception
    let t := faulting .store .storeError
    let i := faulting .fetch .error
    ((l.ea 1 (.imm 0)).toNat % 4 = 0 ∧ l.memFault l.dasi (l.ea 1 (.imm 0)) 4 .load = some .exception)
    ∧ ((t.ea 1 (.imm 0)).toNat % 4 = 0 ∧ t.memFault t.dasi (t.ea 1 (.imm 0)) 4 .store = some .storeError)
    ∧ (l.sRead = true ∧ (l.r 1 + l.r 0).toNat % 4 = 0 ∧ (0x0B : Asi) ∈ [(0x08 : Asi), 0x09, 0x0A, 0x0B]
      ∧ l.memFault 0x0B (l.r 1 + l.r 0) 4 .load = some .exception ∧ t.memFault 0x0B (t.r 1 + t.r 0) 4 .store = some .storeError)
    ∧ ((0x00 : Asi) ∉ [(0x08 : Asi), 0x09, 0x0A, 0x0B] ∧ (0x07 : Asi) ∉ [(0x08 : Asi), 0x09, 0x0A, 0x0B]
      ∧ (0x0C : Asi) ∉ [(0x08 : Asi), 0x09, 0x0A, 0x0B])
    ∧ (i.errorMode = false ∧ i.interruptTaken = false ∧ i.memFault i.iasi i.pc 4 .fetch = some .error) := by decide

theorem test_witness_FaultingAccessesTrapUnassignedAreRefused_wide :
    let l := faulting .load .error
    let t := faulting .store .storeError
    let a := faulting .atomic .exception
    let w := faulting .atomic .storeError
    (isOdd 2 = false ∧ l.efRead = true ∧ t.efRead = true ∧ l.sRead = true ∧ (l.r 1 + l.r 0).toNat % 8 = 0
      ∧ (l.ea 1 (.imm 0)).toNat % 8 = 0 ∧ l.memFault l.dasi (l.ea 1 (.imm 0)) 8 .load = some .error
      ∧ t.memFault t.dasi (t.ea 1 (.imm 0)) 8 .store = some .storeError ∧ l.memFault 0x0B (l.r 1 + l.r 0) 8 .load = some .error
      ∧ t.memFault 0x0B (t.r 1 + t.r 0) 8 .store = some .storeError)
    ∧ (a.memFault a.dasi (a.ea 1 (.imm 0)) 1 .atomic = some .exception ∧ AccessFault.exception ≠ .storeError
      ∧ w.memFault w.dasi (w.ea 1 (.imm 0)) 4 .atomic = some .storeError ∧ (w.ea 1 (.imm 0)).toNat % 4 = 0
      ∧ t.memFault t.dasi (t.ea 1 (.imm 0)) 4 .atomic = none ∧ t.memFault t.dasi (t.ea 1 (.imm 0)) 4 .store = some .storeError
      ∧ a.memFault 0x0B (a.r 1 + a.r 0) 4 .atomic = some .exception) := by decide

theorem test_witness_PrivilegedInstructionsTrapInUserMode : user.sRead = false ∧ user.etRead = true := by decide

theorem test_witness_FpuDisabledTraps : noFpu.efRead = false ∧ (fpopSpec noFpu (.fmovs 0 1)).isSome = true
    ∧ noFpu.sRead = true := by decide

theorem test_witness_CoprocessorInstructionsTrap : base.sRead = true := by decide

theorem test_witness_IllegalInstructionTraps : base.sRead = true ∧ isOdd 1 = true
    ∧ Config.nwindows ≤ (base.r 0 ^^^ base.op2 (.imm 8)).toNat % 32 := by decide

theorem test_witness_ReadStateRegisterResults : base.sRead = true ∧ base.Settled := ⟨by decide, base_settled⟩

theorem test_witness_WriteStateRegisterResults : base.haz.y.count = 0 ∧ base.sRead = true
    ∧ (base.r 0 ^^^ base.op2 (.imm 7)).toNat % 32 < Config.nwindows ∧ base.haz.psr.count = 0 ∧ base.haz.wim.count = 0
    ∧ base.haz.tbr.count = 0 := by decide

/-- Inside an open window that keeps an old PIL. -/
theorem test_witness_WriteStateRegisterResults_open :
    let s : State := { base with haz := { Hazards.empty with psr := { PsrShadow.empty with count := 2, pil := some 3 } } }
    s.sRead = true ∧ (s.r 0 ^^^ s.op2 (.imm 7)).toNat % 32 < Config.nwindows ∧ 0 < s.haz.psr.count ∧ s.haz.psr.pil.isSome = true
      ∧ s.haz.psr.et = none := by decide

/-- A list with a doubleword of each status, and a fetch from a listed one. -/
theorem test_witness_FlushCompletes : flushWf [(0x1000, .counting 5), (0x1008, .dirty), (0x2000, .counting 1)]
    ∧ (let s : State := { base with flushPending := [(0x1000, .dirty)] }
       s.errorMode = false ∧ s.interruptTaken = false ∧ s.memFault s.iasi s.pc 4 .fetch = none
        ∧ (flushFind s.flushPending (doublewordOf s.pc)).isSome = true) := by
  refine ⟨?_, by decide⟩
  simp [flushWf, Config.flushLatency]

theorem test_witness_AncillaryRegisterAccess : (0 < (1 : Reg).toNat ∧ (14 : Reg).toNat < 15) ∧ (1 : Reg) ≠ 0
    ∧ (15 : Reg).toNat < 16 ∧ 16 ≤ (16 : Reg).toNat := by decide

theorem test_witness_FpopCompletes :
    let s := fregs [(1, 0x3F800000)]
    ∃ d, fpopSpec s (.fmovs 0 1) = some d ∧ s.efRead = true ∧ d.misaligned = false ∧ s.fsr.ns = false
      ∧ d.result.exc &&& s.fsr.tem = 0 := ⟨_, rfl, by decide, by decide, by decide, by decide⟩

/-- The largest legal double and quad register numbers. -/
theorem test_witness_FpCompareResults : base.efRead = true ∧ fpMisaligned .double 30 = false ∧ fpMisaligned .quad 28 = false
    ∧ base.fsr.ns = false ∧ excNV &&& base.fsr.tem = 0
    ∧ excNV &&& { base with fsr := { base.fsr with tem := 0x10 } }.fsr.tem ≠ 0 := by decide

/-- The numbers 1 and -0, an infinity and a NaN of each kind. -/
theorem test_witness_fp_values : (fpUnpack .single 0x3F800000).IsReal 1 ∧ (fpUnpack .single 0x80000000).IsReal 0
    ∧ fpUnpack .single 0xFF800000 = .infinity true ∧ fpUnpack .single 0x7FC00000 = .nan false
    ∧ fpUnpack .single 0x7F800001 = .nan true := by
  have one : fpUnpack .single 0x3F800000 = .finite false (2 ^ 23) (-23) := by decide
  have zero : fpUnpack .single 0x80000000 = .finite true 0 (-149) := by decide
  refine ⟨?_, ?_, by decide, by decide, by decide⟩
  · rw [one]; norm_num [FpValue.IsReal]
  · rw [zero]; norm_num [FpValue.IsReal]

/-- 1 is read, divides, has a root and converts; 1 - 1 is 0; -0 is a zero of that sign; an infinity and a NaN are no reals. -/
theorem test_witness_FpArithmeticIsCorrectlyRounded :
    (∃ a : ℝ, (fpUnpack .single 0x3F800000).IsReal a ∧ a ≠ 0 ∧ 0 < a ∧ a + a ≠ 0 ∧ a - a = 0 ∧ a * a ≠ 0 ∧ (1 : ℤ) = ⌊a⌋
      ∧ a = (1 : ℤ))
    ∧ (1 : Word) ≠ 0 ∧ (-2 ^ 31 ≤ (1 : ℤ) ∧ (1 : ℤ) < 2 ^ 31) ∧ (∀ a : ℝ, ¬ (fpUnpack .single 0xFF800000).IsReal a)
    ∧ (fpUnpack .single 0x7FC00000).isNan = true := by
  obtain ⟨h1, -, h3, h4, -⟩ := test_witness_fp_values
  refine ⟨⟨1, h1, ?_⟩, by decide, by norm_num, fun a => ?_, by rw [h4]; rfl⟩
  · norm_num
  · rw [h3]; exact id

/-- A magnitude that no word holds: 2^31. -/
theorem test_witness_FpArithmeticIsCorrectlyRounded_large : (fpUnpack .single 0x4F000000).IsReal (2 ^ 31) := by
  have h : fpUnpack .single 0x4F000000 = .finite false (2 ^ 23) 8 := by decide
  rw [h]; norm_num [FpValue.IsReal]

/-- 1.0 ÷ 0.0 with DZM set. -/
theorem test_witness_FpopExceptionTraps :
    let s : State := { fregs [(0, 0x3F800000)] with fsr := { base.fsr with tem := 2 } }
    ∃ d, fpopSpec s (.fdivs 2 0 1) = some d ∧ s.efRead = true ∧ d.misaligned = false ∧ s.fsr.ns = false
      ∧ d.result.exc &&& s.fsr.tem ≠ 0 := ⟨_, rfl, by decide, by decide, by decide, by decide⟩

theorem test_witness_FpRegisterAndQueueChecksTrap : base.efRead = true
    ∧ (∃ d, fpopSpec base (.fitod 1 0) = some d ∧ d.misaligned = true) ∧ (1 : Reg).toNat % 2 ≠ 0 ∧ (2 : Reg).toNat % 4 ≠ 0
    ∧ (base.ea 0 (.imm 8)).toNat % 8 = 0 ∧ base.sRead = true :=
  ⟨by decide, ⟨_, rfl, by decide⟩, by decide, by decide, by decide, by decide⟩

theorem test_witness_UserModeKeepsPrivilegedState : user.haz.psr.count = 0 ∧ user.psr.s = false
    ∧ ∃ t, step (user.withFetchWord 32 0x01000000) = .next t := ⟨by decide, by decide, next_of (by decide)⟩

theorem test_witness_DisabledFpuKeepsItsState : noFpu.haz.psr.count = 0 ∧ noFpu.psr.ef = false
    ∧ ∃ t, step (noFpu.withFetchWord 32 0xC1006000) = .next t := ⟨by decide, by decide, next_of (by decide)⟩

theorem test_witness_OnlyStoresChangeMemory : (∃ t, exec (.stb 2 1 (.imm 3)) memory = .next t) ∧ ∃ t, exec .nop memory = .next t :=
  ⟨next_of (by decide), next_of (by decide)⟩

theorem test_witness_DelayedWritesSettle :
    ∃ t, exec (.wrwim 0 (.imm 0)) base = .next t ∧ t.errorMode = false ∧ t.haz.wim.count ≠ 0 :=
  ⟨_, rfl, by decide, by decide⟩

/-- A NOP inside every window, with a quirk and a countdown. -/
theorem test_witness_DelayedWritesSettle_open :
    let s : State := { asking 4 0 [⟨2, 5⟩] with
      haz := { Hazards.empty with psr := { PsrShadow.empty with count := 3 }, pilQuirks := [⟨2, 5⟩] },
      flushPending := [(0x2000, .counting 2)] }
    ∃ t, exec .nop s = .next t ∧ t.haz.psr.count ≠ 0 ∧ storeRange .nop s = none := ⟨_, rfl, by decide, rfl⟩

end Sys2Proof.Tests
end

