-- ==== Sys2Proof/Proofs/Arithmetic.lean ====
section
/-! The condition codes of addition and subtraction (R340, R341). The carry out of bit 31 is read off the three sign bits
because operands, carry-in, sum and carry-out add up exactly over `Nat`; the borrow of `a - b` is the carry of adding
`b` back to the difference, so its formula is the carry's. -/

namespace Sys2Proof.Proofs.Arithmetic
open Sys2Proof.Machine

/-! ### Sign bits and the carry-in -/

theorem getLsbD_last_eq_msb (w : Word) : w.getLsbD 31 = w.msb := w.msb_eq_getLsbD_last.symm

@[simp] theorem carryNat_eq_toNat (c : Bool) : carryNat c = c.toNat := by cases c <;> rfl

/-- A sign bit as the top digit of the word's number. -/
theorem toNat_eq_msb_add (w : Word) : ∃ low < 2 ^ 31, w.toNat = w.msb.toNat * 2 ^ 31 + low := by
  have hw := w.isLt
  cases h : w.msb
  · have := BitVec.msb_eq_false_iff_two_mul_lt.mp h
    exact ⟨w.toNat, by omega, by simp⟩
  · have := BitVec.msb_eq_true_iff_two_mul_ge.mp h
    exact ⟨w.toNat - 2 ^ 31, by omega, by simp; omega⟩

/-- Both forms of the addition's overflow test say the same of three sign bits (R340). -/
theorem addOverflow_bits (x y r : Bool) : (x == y && r != x) = ((x && y && !r) || (!x && !y && r)) := by
  revert x y r; decide

/-- Both forms of the subtraction's overflow test say the same of three sign bits (R341). -/
theorem subOverflow_bits (x y r : Bool) : (x != y && r != x) = ((x && !y && !r) || (!x && y && r)) := by
  revert x y r; decide

/-- The full-adder identity of R340: with any carry-in `k`, the operands' bits and the sum's bit tell the carry out. -/
theorem fullAdder_carry {x y r c : Bool} {k : Nat} (hk : k ≤ 1) (h : x.toNat + y.toNat + k = r.toNat + 2 * c.toNat) :
    c = ((x && y) || (!r && (x || y))) := by
  obtain rfl | rfl := Nat.le_one_iff_eq_zero_or_eq_one.mp hk
  all_goals revert x y r c; decide

/-! ### The codes' fields -/

@[simp] theorem addIcc_n (a b : Word) (cin : Bool) : (addIcc a b cin).n = (addResult a b cin).msb := rfl

theorem addIcc_z_iff (a b : Word) (cin : Bool) : (addIcc a b cin).z = true ↔ addResult a b cin = 0 := beq_iff_eq

@[simp] theorem addIcc_v (a b : Word) (cin : Bool) :
    (addIcc a b cin).v = (a.msb == b.msb && (addResult a b cin).msb != a.msb) := rfl

theorem addIcc_c_iff (a b : Word) (cin : Bool) :
    (addIcc a b cin).c = true ↔ 2 ^ 32 ≤ a.toNat + b.toNat + cin.toNat := by
  rw [← carryNat_eq_toNat]; exact decide_eq_true_iff

@[simp] theorem subIcc_n (a b : Word) (cin : Bool) : (subIcc a b cin).n = (subResult a b cin).msb := rfl

theorem subIcc_z_iff (a b : Word) (cin : Bool) : (subIcc a b cin).z = true ↔ subResult a b cin = 0 := beq_iff_eq

@[simp] theorem subIcc_v (a b : Word) (cin : Bool) :
    (subIcc a b cin).v = (a.msb != b.msb && (subResult a b cin).msb != a.msb) := rfl

theorem subIcc_c_iff (a b : Word) (cin : Bool) :
    (subIcc a b cin).c = true ↔ (a.toNat : Int) - b.toNat - cin.toNat < 0 := by
  rw [← carryNat_eq_toNat]; exact decide_eq_true_iff

/-! ### Addition -/

theorem addResult_toNat (a b : Word) (cin : Bool) :
    (addResult a b cin).toNat = (a.toNat + b.toNat + cin.toNat) % 2 ^ 32 := by
  rw [addResult, BitVec.toNat_ofNat, carryNat_eq_toNat]

/-- Nothing is lost: the sum and its carry out of bit 31 are the operands and the carry-in. -/
theorem addResult_toNat_add_carry (a b : Word) (cin : Bool) :
    (addResult a b cin).toNat + (addIcc a b cin).c.toNat * 2 ^ 32 = a.toNat + b.toNat + cin.toNat := by
  have hsum := addResult_toNat a b cin
  have hcin := cin.toNat_le
  cases hc : (addIcc a b cin).c
  · have hlt := mt (addIcc_c_iff a b cin).mpr (by simp [hc])
    simp only [Bool.toNat_false]
    omega
  · have hge := (addIcc_c_iff a b cin).mp hc
    simp only [Bool.toNat_true]
    omega

/-- The carry bit formula of R340. -/
theorem addIcc_c_eq_bits (a b : Word) (cin : Bool) :
    (addIcc a b cin).c = ((a.msb && b.msb) || (!(addResult a b cin).msb && (a.msb || b.msb))) := by
  have hsum := addResult_toNat_add_carry a b cin
  have hcin := cin.toNat_le
  obtain ⟨lowA, hlowA, ha⟩ := toNat_eq_msb_add a
  obtain ⟨lowB, hlowB, hb⟩ := toNat_eq_msb_add b
  obtain ⟨lowR, hlowR, hr⟩ := toNat_eq_msb_add (addResult a b cin)
  rw [ha, hb, hr] at hsum
  generalize a.msb = x, b.msb = y, (addResult a b cin).msb = r, (addIcc a b cin).c = c at hsum ⊢
  -- What the 31 lower bits carry into bit 31.
  obtain ⟨k, hk, hadder⟩ : ∃ k ≤ 1, x.toNat + y.toNat + k = r.toNat + 2 * c.toNat :=
    ⟨r.toNat + 2 * c.toNat - x.toNat - y.toNat, by omega, by omega⟩
  exact fullAdder_carry hk hadder

/-! ### Subtraction -/

theorem subResult_toNat (a b : Word) (cin : Bool) :
    ((subResult a b cin).toNat : Int) = ((a.toNat : Int) - b.toNat - cin.toNat) % 2 ^ 32 := by
  rw [subResult, BitVec.toNat_ofInt, carryNat_eq_toNat]
  exact Int.toNat_of_nonneg (Int.emod_nonneg _ (by decide))

/-- Nothing is lost: the difference, less its borrow, is the exact one. -/
theorem subResult_toNat_sub_borrow (a b : Word) (cin : Bool) :
    ((subResult a b cin).toNat : Int) - (subIcc a b cin).c.toNat * 2 ^ 32 = (a.toNat : Int) - b.toNat - cin.toNat := by
  have hdiff := subResult_toNat a b cin
  have ha := a.isLt
  have hb := b.isLt
  have hcin := cin.toNat_le
  cases hc : (subIcc a b cin).c
  · have hge := mt (subIcc_c_iff a b cin).mpr (by simp [hc])
    simp only [Bool.toNat_false]
    omega
  · have hlt := (subIcc_c_iff a b cin).mp hc
    simp only [Bool.toNat_true]
    omega

/-- Adding the subtrahend and the borrow-in back gives the minuend. -/
theorem addResult_subResult (a b : Word) (cin : Bool) : addResult (subResult a b cin) b cin = a := by
  have hdiff := subResult_toNat_sub_borrow a b cin
  have ha := a.isLt
  apply BitVec.eq_of_toNat_eq
  rw [addResult_toNat]
  omega

/-- The borrow of a subtraction is the carry of the addition that undoes it. -/
theorem subIcc_c_eq_addIcc_c (a b : Word) (cin : Bool) :
    (subIcc a b cin).c = (addIcc (subResult a b cin) b cin).c := by
  have hdiff := subResult_toNat_sub_borrow a b cin
  have hsum := addResult_toNat_add_carry (subResult a b cin) b cin
  rw [addResult_subResult] at hsum
  exact Function.LeftInverse.injective Bool.ofNat_toNat (by omega)

/-- The borrow bit formula of R341. -/
theorem subIcc_c_eq_bits (a b : Word) (cin : Bool) :
    (subIcc a b cin).c = ((!a.msb && b.msb) || ((subResult a b cin).msb && (!a.msb || b.msb))) := by
  rw [subIcc_c_eq_addIcc_c, addIcc_c_eq_bits, addResult_subResult]
  generalize a.msb = x, b.msb = y, (subResult a b cin).msb = r
  revert x y r
  decide

/-! ### The obligations -/

/-- Settles O15: the fields as defined, and the carry as bit 31's full adder. -/
theorem additionConditionCodes : Obligations.AdditionConditionCodes := by
  unfold Obligations.AdditionConditionCodes
  intro a b cin
  simp only [getLsbD_last_eq_msb]
  exact ⟨addResult_toNat a b cin, addIcc_n a b cin, addIcc_z_iff a b cin, addIcc_v a b cin, addIcc_c_iff a b cin,
    (addIcc_v a b cin).trans (addOverflow_bits ..), addIcc_c_eq_bits a b cin⟩

/-- Settles O16: the fields as defined, and the borrow as the carry of adding back. -/
theorem subtractionConditionCodes : Obligations.SubtractionConditionCodes := by
  unfold Obligations.SubtractionConditionCodes
  intro a b cin
  simp only [getLsbD_last_eq_msb]
  exact ⟨subResult_toNat a b cin, subIcc_n a b cin, subIcc_z_iff a b cin, subIcc_v a b cin, subIcc_c_iff a b cin,
    (subIcc_v a b cin).trans (subOverflow_bits ..), subIcc_c_eq_bits a b cin⟩

end Sys2Proof.Proofs.Arithmetic
end

section
/-! What one step can lead to: the interrupt's trap entry, or a shape of state of some instruction (`Leaves`), ticked. The invariant
follows: each operation of the shapes keeps it. -/

set_option Elab.async false

namespace Sys2Proof.Proofs.Step
open Sys2Proof.Machine

theorem traps_of_eq {r : Result} {x : Trap} {s : State} (h : r = raise x s) : traps r x s := h ▸ raise_cases x s

/-! ### The step -/

/-- A word of no row traps, FPop words after the enable. -/
theorem allNext_execUnassigned {s : State} {P : State → Prop} (hraise : ∀ x, AllNext P (raise x s))
    (hfsr : s.efRead = true → AllNext P (fpTrap 3 s)) (rej : Reject) : AllNext P (execUnassigned rej s) := by
  cases rej with
  | unassignedOp2 => exact hraise _
  | unassignedArith => exact hraise _
  | unassignedMem => exact hraise _
  | unassignedFpop1 => exact allNext_fpu (hraise _) hfsr
  | unassignedFpop2 => exact allNext_fpu (hraise _) hfsr

theorem execWord_ok {w : Word} {i : Instr} (h : decodeWord w = .ok i) (s : State) : execWord w s = exec i s := by
  simp [execWord, h]

theorem execWord_error {w : Word} {rej : Reject} (h : decodeWord w = .error rej) (s : State) :
    execWord w s = execUnassigned rej s := by simp [execWord, h]

/-- A property of every shape of next state, of whatever instruction, holds after a fetch. -/
theorem allNext_fetchExecute {s : State} {P : State → Prop} (L : ∀ i, Leaves i s P) : AllNext P (fetchExecute s) := by
  have hraise : ∀ x, AllNext P (raise x s) := (L .nop).trap
  have hfsr (hf : s.efRead = true) : AllNext P (fpTrap 3 s) := (L .nop).trapFsr hf _ { s.fsr with ftt := 3 } rfl
  unfold fetchExecute
  split
  · exact hraise _
  · cases h : decodeWord s.fetchedWord with
    | ok i => rw [execWord_ok h]; exact exec_allNext i s P (L i)
    | error rej => rw [execWord_error h]; exact allNext_execUnassigned hraise hfsr rej

theorem step_of_running {s : State} (h : s.errorMode = false) : step s = tickResult (cycle s) := by simp [step, h]

theorem allNext_tickResult {P Q : State → Prop} (htick : ∀ u, P u → Q u.tick) {r : Result} (h : AllNext P r) :
    AllNext Q (tickResult r) := by
  cases r with
  | next u => exact allNext_next.mpr (htick u (h u rfl))
  | fault f => exact allNext_fault f
  | refused f => exact allNext_refused f

/-- A property of the interrupt's trap entry and of every shape of next state holds, ticked, after a step. -/
theorem step_allNext {s : State} {P Q : State → Prop} (L : ∀ i, Leaves i s P)
    (hint : s.interruptTaken = true → P (s.trapEntry (trapType (.interrupt s.requestLevel))))
    (htick : ∀ u, P u → Q u.tick) : AllNext Q (step s) := by
  cases he : s.errorMode with
  | true => simp [step, he]
  | false =>
    rw [step_of_running he]
    refine allNext_tickResult htick ?_
    unfold cycle
    split
    · next hi => exact allNext_next.mpr (hint hi)
    · exact allNext_fetchExecute L

/-- An interrupt is taken with traps enabled only (R620). -/
theorem et_of_interruptTaken {s : State} (h : s.interruptTaken = true) : s.psr.et = true := by
  unfold State.interruptTaken at h
  split at h
  · next hd =>
    simp only [State.quirkDraws, Bool.and_eq_true] at hd
    exact hd.1.1
  · simp only [State.accepts, Bool.and_eq_true] at h
    exact h.1

end Sys2Proof.Proofs.Step

namespace Sys2Proof.Proofs.Invariant
open Sys2Proof.Machine Sys2Proof.Proofs.Step

/-! ### Word addresses -/

theorem wordAligned_iff (a : Word) : wordAligned a ↔ a.toNat % 4 = 0 := by
  unfold wordAligned
  rw [← BitVec.toNat_inj, BitVec.extractLsb'_toNat]
  simp

theorem wordAligned_add {a b : Word} (ha : wordAligned a) (hb : wordAligned b) : wordAligned (a + b) := by
  rw [wordAligned_iff] at *
  rw [BitVec.toNat_add]
  omega

theorem wordAligned_four : wordAligned 4 := by unfold wordAligned; decide

theorem wordAligned_append_zeros (x : BitVec 30) : wordAligned (x ++ 0b00#2) := Laws.extract_low x 0b00#2

theorem wordAligned_of_not_misaligned {a : Word} (h : misaligned 4 a = false) : wordAligned a :=
  (wordAligned_iff a).mpr (misaligned_eq_false.mp h)

theorem wordAligned_signExtend (x : BitVec 22) : wordAligned ((x ++ 0b00#2).signExtend 32) := by
  unfold wordAligned
  ext i hi
  have h24 : i < 22 + 2 := by omega
  rw [BitVec.getElem_extractLsb', BitVec.getLsbD_signExtend, if_pos (by omega), Nat.zero_add, BitVec.getLsbD_append, if_pos hi]
  simp

theorem wordAligned_branchTarget {pc : Word} (h : wordAligned pc) (d : BitVec 22) : wordAligned (branchTarget pc d) :=
  wordAligned_add h (wordAligned_signExtend d)

theorem wordAligned_callTarget {pc : Word} (h : wordAligned pc) (d : BitVec 30) : wordAligned (callTarget pc d) :=
  wordAligned_add h (wordAligned_append_zeros d)

theorem wordAligned_trapVector (tba : BitVec 20) (tt : BitVec 8) : wordAligned (trapVector tba tt) := by
  have hlow (i : Nat) (hi : i < 4) : (trapVector tba tt).getLsbD i = false :=
    (BitVec.getLsbD_append (x := tba ++ tt) (y := 0#4)).trans (by simp [hi])
  unfold wordAligned
  ext i hi
  rw [BitVec.getElem_extractLsb', hlow _ (by omega)]
  simp

/-! ### Doublewords and windows -/

theorem doublewordOf_mod (a : Word) : doublewordOf a % 8 = 0 := by
  have h : (a &&& 0xFFFFFFF8#32).extractLsb' 0 3 = 0#3 := by
    rw [BitVec.extractLsb'_and, show (0xFFFFFFF8#32).extractLsb' 0 3 = 0#3 by decide, BitVec.and_zero]
  have h' := congrArg BitVec.toNat h
  simpa [BitVec.extractLsb'_toNat, doublewordOf] using h'

theorem toNat_ofNat_window {w : Nat} (h : w < Config.nwindows) : (BitVec.ofNat 5 w).toNat = w := by
  rw [BitVec.toNat_ofNat]
  exact Nat.mod_eq_of_lt (by unfold Config.nwindows at h; omega)

theorem windowBelow_lt (w : Nat) : windowBelow w < Config.nwindows := Nat.mod_lt _ (by decide)
theorem windowAbove_lt (w : Nat) : windowAbove w < Config.nwindows := Nat.mod_lt _ (by decide)

theorem wimMask_and_self (v : Word) : wimMask &&& (wimMask &&& v) = wimMask &&& v := by
  rw [← BitVec.and_assoc, BitVec.and_self]

/-! ### Hazards -/

/-- The part of the invariant that speaks of the hazards: windows of at most three instructions, an old CWP that a window has. -/
structure HazInv (h : Hazards) : Prop where
  oldCwp : ∀ w, h.psr.cwp = some w → w.toNat < Config.nwindows
  psr : h.psr.count ≤ 3
  wim : h.wim.count ≤ 3
  tbr : h.tbr.count ≤ 3
  y : h.y.count ≤ 3
  ldfsr : h.ldfsrCount ≤ 3
  quirks : ∀ q ∈ h.pilQuirks, 0 < q.count ∧ q.count ≤ 3

theorem psrShadow_age_cwp {h : PsrShadow} {w : BitVec 5} (hw : h.age.cwp = some w) : h.cwp = some w := by
  unfold PsrShadow.age at hw
  split at hw
  · simp [PsrShadow.empty] at hw
  · exact hw

theorem agedQuirks_counts {h : Hazards} (hq : ∀ q ∈ h.pilQuirks, 0 < q.count ∧ q.count ≤ 3) :
    ∀ q ∈ h.agedQuirks, 0 < q.count ∧ q.count ≤ 3 := by
  rw [Hazards.agedQuirks_eq]
  intro q hmem
  obtain ⟨p, hp, rfl⟩ := List.mem_map.mp hmem
  obtain ⟨hp, hpos⟩ := List.mem_filter.mp hp
  have := hq p hp
  have := of_decide_eq_true hpos
  constructor <;> dsimp only <;> omega

theorem HazInv.age {h : Hazards} (hh : HazInv h) : HazInv h.age where
  oldCwp w hw := hh.oldCwp w (psrShadow_age_cwp hw)
  psr := by have := hh.psr; have := PsrShadow.age_count h.psr; simp only [Hazards.age]; omega
  wim := by have := hh.wim; have := Shadow.age_count h.wim; simp only [Hazards.age]; omega
  tbr := by have := hh.tbr; have := Shadow.age_count h.tbr; simp only [Hazards.age]; omega
  y := by have := hh.y; have := Shadow.age_count h.y; simp only [Hazards.age]; omega
  ldfsr := by have := hh.ldfsr; simp only [Hazards.age]; omega
  quirks := agedQuirks_counts hh.quirks

/-- After a trap entry the quirks alone are left. -/
theorem HazInv.trapEntry {h : Hazards} (hh : HazInv h) : HazInv { Hazards.empty with pilQuirks := h.agedQuirks } where
  oldCwp := nofun
  psr := Nat.zero_le _
  wim := Nat.zero_le _
  tbr := Nat.zero_le _
  y := Nat.zero_le _
  ldfsr := Nat.zero_le _
  quirks := agedQuirks_counts hh.quirks

/-- What a window keeps is the old value it has or the one before the write. -/
theorem keptOld_eq_some {α : Type} [DecidableEq α] {count : Nat} {kept : Option α} {old new v : α}
    (h : keptOld count kept old new = some v) : kept = some v ∨ old = v := by
  unfold keptOld at h
  split at h
  · exact .inl h
  · split at h
    · cases h
    · exact .inr (Option.some.inj h)

theorem pilQuirksAfter_counts {aged : List PilQuirk} (old new : Psr) (h : ∀ q ∈ aged, 0 < q.count ∧ q.count ≤ 3) :
    ∀ q ∈ pilQuirksAfter aged old new, 0 < q.count ∧ q.count ≤ 3 := by
  unfold pilQuirksAfter
  split
  · intro q hq
    rcases List.mem_cons.mp hq with rfl | hq
    · exact ⟨Nat.succ_pos _, le_rfl⟩
    · exact h q hq
  · exact h

/-! ### The operations keep the invariant -/

variable {s u : State}

theorem hazInv_of_inv (h : s.Inv) : HazInv s.haz := by
  obtain ⟨hpsr, hwim, htbr, hy, hldfsr, hquirks⟩ := h.counts
  exact ⟨h.oldCwp, hpsr, hwim, htbr, hy, hldfsr, hquirks⟩

theorem counts_of_hazInv {h : Hazards} (hh : HazInv h) : h.psr.count ≤ 3 ∧ h.wim.count ≤ 3 ∧ h.tbr.count ≤ 3 ∧ h.y.count ≤ 3
    ∧ h.ldfsrCount ≤ 3 ∧ ∀ q ∈ h.pilQuirks, 0 < q.count ∧ q.count ≤ 3 :=
  ⟨hh.psr, hh.wim, hh.tbr, hh.y, hh.ldfsr, hh.quirks⟩

/-- A change of what the invariant does not look at keeps it. -/
theorem inv_of_eq (h : s.Inv) (hmem : u.mem = s.mem := by simp) (hflush : u.flushPending = s.flushPending := by simp)
    (hpc : u.pc = s.pc := by simp) (hnpc : u.npc = s.npc := by simp) (hcwp : u.psr.cwp = s.psr.cwp := by simp)
    (hec : u.psr.ec = s.psr.ec := by simp) (hef : u.psr.ef = s.psr.ef := by simp) (hwim : u.wim = s.wim := by simp)
    (hqne : u.fsr.qne = s.fsr.qne := by simp) (hhaz : u.haz = s.haz := by simp) : u.Inv where
  mem := hmem ▸ h.mem
  flush := hflush ▸ h.flush
  pc := hpc ▸ h.pc
  npc := hnpc ▸ h.npc
  cwp := hcwp ▸ h.cwp
  oldCwp := hhaz ▸ h.oldCwp
  wim := hwim ▸ h.wim
  ec hc := hec ▸ h.ec hc
  ef hf := hef ▸ h.ef hf
  qne hq := hqne ▸ h.qne hq
  counts := hhaz ▸ h.counts

theorem inv_setRw (h : s.Inv) (w : Nat) (i : Reg) (v : Word) : (s.setRw w i v).Inv := inv_of_eq h
theorem inv_setR (h : s.Inv) (i : Reg) (v : Word) : (s.setR i v).Inv := inv_of_eq h
theorem inv_setY (h : s.Inv) (v : Word) : (s.setY v).Inv := inv_of_eq h
theorem inv_setIcc (h : s.Inv) (c : Icc) : (s.setIcc c).Inv := { h with }
theorem inv_setF (h : s.Inv) (i : Reg) (v : Word) : (s.setF i v).Inv := inv_of_eq h
theorem inv_setFD (h : s.Inv) (i : Reg) (v : DWord) : (s.setFD i v).Inv := inv_of_eq h
theorem inv_setFp (h : s.Inv) (fmt : FpFormat) (i : Reg) (v : Nat) : (s.setFp fmt i v).Inv := inv_of_eq h
theorem inv_setFcc (h : s.Inv) (v : BitVec 2) : (s.setFcc v).Inv := inv_of_eq h
theorem inv_loadFsr (h : s.Inv) (w : Word) : (s.loadFsr w).Inv := { h with }
theorem inv_setFsr (h : s.Inv) {f : Fsr} (hf : f.qne = s.fsr.qne) : ({ s with fsr := f } : State).Inv :=
  inv_of_eq h (hqne := hf)
theorem inv_setCompleted (h : s.Inv) (exc : FpExc) : ({ s with fsr := s.fsr.completed exc } : State).Inv := inv_setFsr h rfl

theorem inv_setCwp (h : s.Inv) {w : Nat} (hw : w < Config.nwindows) : (s.setCwp w).Inv :=
  { h with
    cwp := by
      have hfree : written s.haz.psr.count (Config.freeCwpWrite s.freeCount % Config.nwindows) w < Config.nwindows := by
        unfold written
        split
        · exact Nat.mod_lt _ (by decide)
        · exact hw
      exact (toNat_ofNat_window hfree).trans_lt hfree }

theorem inv_store (h : s.Inv) (a : Word) (bs : List Byte) : (s.store a bs).Inv :=
  { h with
    mem := Laws.memWf_memWriteBytes a bs h.mem
    flush := Laws.flushWf_flushSet h.flush (doublewordOf_mod a) nofun }

theorem inv_retire (h : s.Inv) : s.retire.Inv :=
  have hh := (hazInv_of_inv h).age
  { h with flush := Laws.flushWf_flushAge h.flush, oldCwp := hh.oldCwp, counts := counts_of_hazInv hh }

theorem inv_advance (h : s.Inv) : s.advance.Inv :=
  { h with pc := h.npc, npc := wordAligned_add h.npc wordAligned_four }

theorem inv_transfer (h : s.Inv) {a : Word} (ha : wordAligned a) : (s.transfer a).Inv := { h with pc := h.npc, npc := ha }

theorem inv_branchTo (h : s.Inv) (taken unconditional a : Bool) {target : Word} (ht : wordAligned target) :
    (s.branchTo taken unconditional a target).Inv := by
  have hgo : (if taken then s.transfer target else s.advance).Inv := by
    cases taken
    · exact inv_advance h
    · exact inv_transfer h ht
  unfold State.branchTo
  dsimp only
  cases annuls taken unconditional a
  · exact hgo
  · exact inv_advance hgo

theorem inv_branchCouple (h : s.Inv) : s.branchCouple.Inv :=
  { h with pc := wordAligned_append_zeros _, npc := wordAligned_append_zeros _ }

theorem inv_markBranch (h : s.Inv) (b : Bool) : (s.markBranch b).Inv := { h with }
theorem inv_markFpop2 (h : s.Inv) : s.markFpop2.Inv := { h with }
theorem inv_markJmpl (h : s.Inv) : s.markJmpl.Inv := { h with }
theorem inv_markFetchSpace (h : s.Inv) (b : Bool) : (s.markFetchSpace b).Inv := { h with }

theorem inv_openLdfsr (h : s.Inv) : s.openLdfsr.Inv :=
  { h with counts := counts_of_hazInv { hazInv_of_inv h with ldfsr := le_rfl } }

theorem inv_trapEntry (h : s.Inv) (tt : BitVec 8) : (s.trapEntry tt).Inv :=
  have hh := (hazInv_of_inv h).trapEntry
  { mem := by rw [State.trapEntry_mem]; exact h.mem
    flush := by rw [State.trapEntry_flushPending]; exact h.flush
    pc := wordAligned_trapVector _ _
    npc := wordAligned_add (wordAligned_trapVector _ _) wordAligned_four
    cwp := (toNat_ofNat_window (windowBelow_lt _)).trans_lt (windowBelow_lt _)
    oldCwp := hh.oldCwp
    wim := by rw [State.trapEntry_wim]; exact h.wim
    ec := h.ec
    ef := h.ef
    qne := by rw [State.trapEntry_fsr]; exact h.qne
    counts := counts_of_hazInv hh }

theorem inv_enterErrorMode (h : s.Inv) : s.enterErrorMode.Inv := { h with }
theorem inv_rettErrorMode (h : s.Inv) (t : Trap) : (s.rettErrorMode t).Inv := { h with }

theorem allNext_raise_inv (h : s.Inv) (t : Trap) : AllNext State.Inv (raise t s) :=
  allNext_raise (inv_trapEntry h _) (inv_enterErrorMode h)

theorem inv_returnFromTrap (h : s.Inv) {w : Nat} (hw : w < Config.nwindows) {a : Word} (ha : wordAligned a) :
    (s.returnFromTrap w a).Inv :=
  { inv_transfer (inv_setCwp h hw) ha with }

theorem inv_writeY (h : s.Inv) (v : Word) : (s.writeY v).Inv :=
  have ht := inv_advance (inv_retire h)
  { ht with counts := counts_of_hazInv { hazInv_of_inv ht with y := le_rfl } }

theorem inv_writeWim (h : s.Inv) (v : Word) : (s.writeWim v).Inv :=
  have ht := inv_advance (inv_retire h)
  { ht with wim := wimMask_and_self v, counts := counts_of_hazInv { hazInv_of_inv ht with wim := le_rfl } }

theorem inv_writeTbr (h : s.Inv) (v : Word) : (s.writeTbr v).Inv :=
  have ht := inv_advance (inv_retire h)
  { ht with counts := counts_of_hazInv { hazInv_of_inv ht with tbr := le_rfl } }

theorem inv_writePsr (h : s.Inv) {v : Word} (hv : (v.extractLsb' 0 5 : BitVec 5).toNat < Config.nwindows) : (s.writePsr v).Inv :=
  have ht := inv_advance (inv_retire h)
  { ht with
    cwp := hv
    oldCwp := fun w hw => by
      rcases keptOld_eq_some hw with hk | rfl
      · exact h.oldCwp w hk
      · exact h.cwp
    ec := fun hc => by simp [State.writePsr, psrOfWord, hc]
    ef := fun hf => by simp [State.writePsr, psrOfWord, hf]
    counts := counts_of_hazInv
      { hazInv_of_inv ht with
        oldCwp := fun w hw => by
          rcases keptOld_eq_some hw with hk | rfl
          · exact h.oldCwp w hk
          · exact h.cwp
        psr := le_rfl
        quirks := pilQuirksAfter_counts _ _ (hazInv_of_inv ht).quirks } }

theorem flushWf_flushAfter {old aged : List (Nat × FlushStatus)} (h : flushWf aged) {d : Nat} (hd : d % 8 = 0) :
    flushWf (flushAfter old aged d) := by
  unfold flushAfter
  split
  · exact h
  · split
    · exact Laws.flushWf_flushErase d h
    · next hl => exact Laws.flushWf_flushSet h hd (by rintro k ⟨⟩; exact ⟨Nat.pos_of_ne_zero hl, le_rfl⟩)

theorem inv_flush (h : s.Inv) (a : Word) : (s.flush a).Inv :=
  have ht := inv_advance (inv_retire h)
  { ht with flush := flushWf_flushAfter ht.flush (doublewordOf_mod a) }

theorem inv_tick (h : s.Inv) : s.tick.Inv := { h with }

/-! ### Every step -/

theorem inv_finish (h : s.Inv) : s.retire.advance.Inv := inv_advance (inv_retire h)

theorem inv_leaves (h : s.Inv) (i : Instr) : Leaves i s State.Inv where
  trap t := allNext_raise_inv h t
  trapReg t rd v := allNext_raise_inv (inv_setR h rd v) t
  trapStore t ea _ bs _ _ := allNext_raise_inv (inv_store h ea bs) t
  trapFsr _ t _ hf := allNext_raise_inv (inv_setFsr h hf) t
  trapF _ t rd v := allNext_raise_inv (inv_setF h rd v) t
  trapFD _ t rd v := allNext_raise_inv (inv_setFD h rd v) t
  plain := inv_finish h
  reg rd v := inv_finish (inv_setR h rd v)
  pair rd v rd' v' := inv_finish (inv_setR (inv_setR h rd v) rd' v')
  regIcc rd v c := inv_finish (inv_setIcc (inv_setR h rd v) c)
  regY rd v y := inv_finish (inv_setY (inv_setR h rd v) y)
  regIccY rd v c y := inv_finish (inv_setY (inv_setIcc (inv_setR h rd v) c) y)
  store ea _ bs _ _ := inv_finish (inv_store h ea bs)
  storeReg ea _ bs rd v _ _ := inv_finish (inv_setR (inv_store h ea bs) rd v)
  loadF _ rd v := inv_finish (inv_setF h rd v)
  loadFD _ rd v := inv_finish (inv_setFD h rd v)
  loadFsr _ _ _ _ w _ := inv_openLdfsr (inv_finish (inv_loadFsr h w))
  fpop _ exc dst rd bits := inv_finish (inv_setFp (inv_setCompleted h exc) dst rd bits)
  compare _ _ exc v := inv_markFpop2 (inv_finish (inv_setFcc (inv_setCompleted h exc) v))
  window w rd v hw := inv_finish (inv_setCwp (inv_setRw h w rd v) hw)
  branch taken unconditional a d b _ :=
    inv_markBranch (inv_branchTo (inv_retire h) taken unconditional a (wordAligned_branchTarget h.pc d)) b
  couple b _ := inv_markBranch (inv_branchCouple (inv_retire h)) b
  call d := inv_transfer (inv_retire (inv_setR h 15 s.pc)) (wordAligned_callTarget h.pc d)
  jmpl _ rd _ hea := inv_markJmpl (inv_transfer (inv_retire (inv_setR h rd s.pc)) (wordAligned_of_not_misaligned hea))
  rettError _ t := inv_rettErrorMode h t
  rett _ _ _ _ b hw hea :=
    inv_markFetchSpace (inv_retire (inv_returnFromTrap h hw (wordAligned_of_not_misaligned hea))) b
  writeY _ _ v _ := inv_writeY h v
  writePsr _ _ _ _ _ hv := inv_writePsr h hv
  writeWim _ _ _ v _ := inv_writeWim h v
  writeTbr _ _ _ v _ := inv_writeTbr h v
  flush _ _ _ ea := inv_flush h ea

/-- Settles O3: the invariant is a property of every shape of next state, and of the interrupt's trap entry. -/
theorem everyStepKeepsInvariant : Obligations.EveryStepKeepsInvariant := by
  unfold Obligations.EveryStepKeepsInvariant
  intro s t h ht
  exact step_allNext (inv_leaves h) (fun _ => inv_trapEntry h _) (fun _ => inv_tick) t ht

/-- Settles O2: reset has empty memory, aligned PCs and no hazard. -/
theorem resetSatisfiesInvariant : Obligations.ResetSatisfiesInvariant := by
  unfold Obligations.ResetSatisfiesInvariant
  exact
    { mem := rfl
      flush := trivial
      pc := rfl
      npc := rfl
      cwp := by decide
      oldCwp := nofun
      wim := by decide
      ec := fun _ => rfl
      ef := fun _ => rfl
      qne := fun _ => rfl
      counts := counts_of_hazInv ⟨nofun, Nat.zero_le _, Nat.zero_le _, Nat.zero_le _, Nat.zero_le _, Nat.zero_le _, nofun⟩ }

end Sys2Proof.Proofs.Invariant

end

section
/-! The whole-machine rules: what a user-mode step, a step with the FPU disabled, and any instruction leave. Each is a property of
the few shapes of next state (`Leaves`); the shapes a mode excludes are those whose guard contradicts it. -/

set_option Elab.async false

namespace Sys2Proof.Proofs.WholeMachine
open Sys2Proof.Machine Sys2Proof.Proofs.Step

@[simp] theorem setIcc_psr (s : State) (c : Icc) :
    (s.setIcc c).psr = { s.psr with icc := written s.haz.psr.count (iccOfBits (Config.freeIccWrite s.freeCount)) c } := rfl

@[simp] theorem setCwp_psr (s : State) (w : Nat) : (s.setCwp w).psr = { s.psr with
    cwp := BitVec.ofNat 5 (written s.haz.psr.count (Config.freeCwpWrite s.freeCount % Config.nwindows) w) } := rfl

/-! ### User mode -/

/-- What a user-mode step may do to the privileged state: keep it, or enter a trap (60_exceptions.md section 5). -/
def UserOutcome (s t : State) : Prop :=
  t.wim = s.wim ∧ t.tbr.tba = s.tbr.tba ∧ t.psr.ec = s.psr.ec ∧ t.psr.ef = s.psr.ef ∧ t.psr.pil = s.psr.pil
    ∧ ((t.psr.s = false ∧ t.psr.ps = s.psr.ps ∧ t.psr.et = s.psr.et)
      ∨ (s.psr.et = true ∧ t.psr.s = true ∧ t.psr.ps = false ∧ t.psr.et = false ∧ t.pc = s.trapTba ++ t.tbr.tt ++ 0#4))

variable {s u : State}

theorem userOutcome_of_kept (hs : s.psr.s = false) (hwim : u.wim = s.wim := by simp) (htba : u.tbr.tba = s.tbr.tba := by simp)
    (hec : u.psr.ec = s.psr.ec := by simp) (hef : u.psr.ef = s.psr.ef := by simp) (hpil : u.psr.pil = s.psr.pil := by simp)
    (hsu : u.psr.s = s.psr.s := by simp) (hps : u.psr.ps = s.psr.ps := by simp) (het : u.psr.et = s.psr.et := by simp) :
    UserOutcome s u :=
  ⟨hwim, htba, hec, hef, hpil, .inl ⟨hsu.trans hs, hps, het⟩⟩

/-- A trap entry from a state whose traps read what those of `s` read. -/
theorem userOutcome_trapEntry (h0 : s.haz.psr.count = 0) (hs : s.psr.s = false) (het : s.psr.et = true) (tt : BitVec 8)
    (hwim : u.wim = s.wim := by simp) (htbr : u.tbr = s.tbr := by simp) (hpsr : u.psr = s.psr := by simp)
    (hhaz : u.haz = s.haz := by simp) (hfree : u.freeCount = s.freeCount := by simp) : UserOutcome s (u.trapEntry tt) := by
  have hS : u.trapS = false := by rw [trapS_settled (by rw [hhaz, h0]), hpsr, hs]
  have hTba : u.trapTba = s.trapTba := by unfold State.trapTba; rw [hhaz, htbr, hfree]
  refine ⟨by simp [hwim], by simp [htbr], by simp [hpsr], by simp [hpsr], by simp [hpsr], .inr ⟨het, rfl, hS, rfl, ?_⟩⟩
  rw [State.trapEntry_pc, hTba, State.trapEntry_tbr]
  rfl

theorem userOutcome_raise (h0 : s.haz.psr.count = 0) (hs : s.psr.s = false) (x : Trap) (hwim : u.wim = s.wim := by simp)
    (htbr : u.tbr = s.tbr := by simp) (hpsr : u.psr = s.psr := by simp) (hhaz : u.haz = s.haz := by simp)
    (hfree : u.freeCount = s.freeCount := by simp) : AllNext (UserOutcome s) (raise x u) := by
  intro t ht
  obtain ⟨het, rfl⟩ | ⟨-, rfl⟩ := raise_next ht
  · rw [trapEt_settled (by rw [hhaz, h0]), hpsr] at het
    exact userOutcome_trapEntry h0 hs het _ hwim htbr hpsr hhaz hfree
  · exact userOutcome_of_kept hs (by simp [hwim]) (by simp [htbr]) (by simp [hpsr]) (by simp [hpsr]) (by simp [hpsr])
      (by simp [hpsr]) (by simp [hpsr]) (by simp [hpsr])

/-- The privileged shapes need supervisor mode; every other shape keeps the privileged state or is a raise. -/
theorem userOutcome_leaves (h0 : s.haz.psr.count = 0) (hs : s.psr.s = false) (i : Instr) : Leaves i s (UserOutcome s) :=
  have hno : ¬ s.sRead = true := by simp [sRead_settled h0, hs]
  { trap := fun t => userOutcome_raise h0 hs t
    trapReg := fun t rd v => userOutcome_raise h0 hs t
    trapStore := fun t ea n bs _ _ => userOutcome_raise h0 hs t
    trapFsr := fun _ t f _ => userOutcome_raise h0 hs t
    trapF := fun _ t rd v => userOutcome_raise h0 hs t
    trapFD := fun _ t rd v => userOutcome_raise h0 hs t
    plain := userOutcome_of_kept hs
    reg := fun rd v => userOutcome_of_kept hs
    pair := fun rd v rd' v' => userOutcome_of_kept hs
    regIcc := fun rd v c => userOutcome_of_kept hs
    regY := fun rd v y => userOutcome_of_kept hs
    regIccY := fun rd v c y => userOutcome_of_kept hs
    store := fun ea n bs _ _ => userOutcome_of_kept hs
    storeReg := fun ea n bs rd v _ _ => userOutcome_of_kept hs
    loadF := fun _ rd v => userOutcome_of_kept hs
    loadFD := fun _ rd v => userOutcome_of_kept hs
    loadFsr := fun _ rd rs1 o w _ => userOutcome_of_kept hs
    fpop := fun _ exc dst rd bits => userOutcome_of_kept hs
    compare := fun _ _ exc v => userOutcome_of_kept hs
    window := fun w rd v _ => userOutcome_of_kept hs
    branch := fun taken unconditional a d b _ => userOutcome_of_kept hs
    couple := fun b _ => userOutcome_of_kept hs
    call := fun d => userOutcome_of_kept hs
    jmpl := fun _ rd ea _ => userOutcome_of_kept hs
    rettError := fun _ t => userOutcome_of_kept hs
    rett := fun _ h => absurd h hno
    writeY := fun rs1 o v _ => userOutcome_of_kept hs
    writePsr := fun h => absurd h hno
    writeWim := fun h => absurd h hno
    writeTbr := fun h => absurd h hno
    flush := fun rs1 o _ ea => userOutcome_of_kept hs }

/-- Settles O57: by the shapes of next state; an interrupt is taken with ET = 1 only. -/
theorem userModeKeepsPrivilegedState : Obligations.UserModeKeepsPrivilegedState := by
  unfold Obligations.UserModeKeepsPrivilegedState
  intro s t h0 hs ht
  exact step_allNext (Q := UserOutcome s) (userOutcome_leaves h0 hs)
    (fun hi => userOutcome_trapEntry h0 hs (et_of_interruptTaken hi) _) (fun _ hu => hu) t ht

/-! ### The FPU disabled -/

/-- The f registers and the FSR are those of `s`. -/
def SameFpu (s t : State) : Prop := t.f = s.f ∧ t.fsr = s.fsr

theorem sameFpu_of_eq (hf : u.f = s.f := by simp) (hfsr : u.fsr = s.fsr := by simp) : SameFpu s u := ⟨hf, hfsr⟩

theorem sameFpu_raise (x : Trap) (h : SameFpu s u) : AllNext (SameFpu s) (raise x u) := by
  obtain ⟨hf, hfsr⟩ := h
  exact allNext_raise (sameFpu_of_eq (by simp [hf]) (by simp [hfsr])) (sameFpu_of_eq (by simp [hf]) (by simp [hfsr]))

/-- Every shape that writes the FPU passed its enable. -/
theorem sameFpu_leaves (h : ¬ s.efRead = true) (i : Instr) : Leaves i s (SameFpu s) where
  trap t := sameFpu_raise t sameFpu_of_eq
  trapReg t rd v := sameFpu_raise t sameFpu_of_eq
  trapStore t ea n bs _ _ := sameFpu_raise t sameFpu_of_eq
  trapFsr hf := absurd hf h
  trapF hf := absurd hf h
  trapFD hf := absurd hf h
  plain := sameFpu_of_eq
  reg rd v := sameFpu_of_eq
  pair rd v rd' v' := sameFpu_of_eq
  regIcc rd v c := sameFpu_of_eq
  regY rd v y := sameFpu_of_eq
  regIccY rd v c y := sameFpu_of_eq
  store ea n bs _ _ := sameFpu_of_eq
  storeReg ea n bs rd v _ _ := sameFpu_of_eq
  loadF hf := absurd hf h
  loadFD hf := absurd hf h
  loadFsr hf := absurd hf h
  fpop hf := absurd hf h
  compare hf := absurd hf h
  window w rd v _ := sameFpu_of_eq
  branch taken unconditional a d b _ := sameFpu_of_eq
  couple b _ := sameFpu_of_eq
  call d := sameFpu_of_eq
  jmpl _ rd ea _ := sameFpu_of_eq
  rettError _ t := sameFpu_of_eq
  rett _ _ w ea b _ _ := sameFpu_of_eq
  writeY rs1 o v _ := sameFpu_of_eq
  writePsr _ rs1 o v _ _ := sameFpu_of_eq
  writeWim _ rs1 o v _ := sameFpu_of_eq
  writeTbr _ rs1 o v _ := sameFpu_of_eq
  flush rs1 o _ ea := sameFpu_of_eq

/-- Settles O58: the shapes that write the FPU need EF = 1. -/
theorem disabledFpuKeepsItsState : Obligations.DisabledFpuKeepsItsState := by
  unfold Obligations.DisabledFpuKeepsItsState
  intro s t h0 hef ht
  have hoff : ¬ s.efRead = true := by simp [efRead_settled h0, hef]
  obtain ⟨hf, hfsr⟩ : SameFpu s t := step_allNext (sameFpu_leaves hoff) (fun _ => sameFpu_of_eq) (fun _ hu => hu) t ht
  exact fpuKept_of_eq hf hfsr

/-! ### Stores -/

/-- Memory is that of `s` but for the bytes instruction `i` may store to. -/
def KeepsOtherBytes (i : Instr) (s t : State) : Prop :=
  ∀ a, (∀ ea n, storeRange i s = some (ea, n) → ∀ k < n, a ≠ ea + BitVec.ofNat 32 k) → t.byte a = s.byte a

variable {i : Instr}

theorem keepsOtherBytes_of_mem (hmem : u.mem = s.mem := by simp) : KeepsOtherBytes i s u :=
  fun a _ => memKept_of_eq hmem a

/-- Bytes written in the store range leave the others. -/
theorem keepsOtherBytes_store {ea : Word} {n : Nat} {bs : List Byte} (hr : storeRange i s = some (ea, n)) (hl : bs.length ≤ n)
    (hmem : u.mem = memWriteBytes s.mem ea bs) : KeepsOtherBytes i s u := by
  intro a ha
  unfold State.byte
  rw [hmem]
  exact Laws.memRead_memWriteBytes_other s.mem ea a bs (fun k hk => ha ea n hr k (by omega))

theorem keepsOtherBytes_raise (x : Trap) (hmem : u.mem = s.mem := by simp) : AllNext (KeepsOtherBytes i s) (raise x u) :=
  allNext_raise (keepsOtherBytes_of_mem (by simp [hmem])) (keepsOtherBytes_of_mem (by simp [hmem]))

/-- Only the storing shapes write memory, in the range of their instruction. -/
theorem keepsOtherBytes_leaves (i : Instr) (s : State) : Leaves i s (KeepsOtherBytes i s) where
  trap t := keepsOtherBytes_raise t
  trapReg t rd v := keepsOtherBytes_raise t
  trapStore t ea n bs hr hl := allNext_raise (keepsOtherBytes_store hr hl (by rw [State.trapEntry_mem]; rfl))
    (keepsOtherBytes_store hr hl rfl)
  trapFsr _ t f _ := keepsOtherBytes_raise t
  trapF _ t rd v := keepsOtherBytes_raise t
  trapFD _ t rd v := keepsOtherBytes_raise t
  plain := keepsOtherBytes_of_mem
  reg rd v := keepsOtherBytes_of_mem
  pair rd v rd' v' := keepsOtherBytes_of_mem
  regIcc rd v c := keepsOtherBytes_of_mem
  regY rd v y := keepsOtherBytes_of_mem
  regIccY rd v c y := keepsOtherBytes_of_mem
  store ea n bs hr hl := keepsOtherBytes_store hr hl rfl
  storeReg ea n bs rd v hr hl := keepsOtherBytes_store hr hl (State.setR_mem ..)
  loadF _ rd v := keepsOtherBytes_of_mem
  loadFD _ rd v := keepsOtherBytes_of_mem
  loadFsr _ rd rs1 o w _ := keepsOtherBytes_of_mem
  fpop _ exc dst rd bits := keepsOtherBytes_of_mem
  compare _ _ exc v := keepsOtherBytes_of_mem
  window w rd v _ := keepsOtherBytes_of_mem
  branch taken unconditional a d b _ := keepsOtherBytes_of_mem
  couple b _ := keepsOtherBytes_of_mem
  call d := keepsOtherBytes_of_mem
  jmpl _ rd ea _ := keepsOtherBytes_of_mem
  rettError _ t := keepsOtherBytes_of_mem
  rett _ _ w ea b _ _ := keepsOtherBytes_of_mem
  writeY rs1 o v _ := keepsOtherBytes_of_mem
  writePsr _ rs1 o v _ _ := keepsOtherBytes_of_mem
  writeWim _ rs1 o v _ := keepsOtherBytes_of_mem
  writeTbr _ rs1 o v _ := keepsOtherBytes_of_mem
  flush rs1 o _ ea := keepsOtherBytes_of_mem

/-- Settles O59: by the shapes of next state. -/
theorem onlyStoresChangeMemory : Obligations.OnlyStoresChangeMemory := by
  unfold Obligations.OnlyStoresChangeMemory
  intro i s t ht
  have hkept : KeepsOtherBytes i s t := exec_allNext i s _ (keepsOtherBytes_leaves i s) t ht
  cases hr : storeRange i s with
  | none => exact fun a => hkept a (fun ea n h => by rw [hr] at h; cases h)
  | some range =>
    obtain ⟨ea, n⟩ := range
    exact fun a ha => hkept a (fun ea' n' h => by rw [hr] at h; obtain ⟨rfl, rfl⟩ := Option.some.inj h; exact ha)

end Sys2Proof.Proofs.WholeMachine

end

section
/-! The hazards settle: an instruction ends in error_mode, in a trap entry, which clears all but the quirks, or it completes, which
ages them. -/

set_option Elab.async false

namespace Sys2Proof.Proofs.Settling
open Sys2Proof.Machine

/-- The hazards after an instruction that completes (R714): aged, but for what the instruction itself sets. -/
structure Aged (i : Instr) (s t : State) : Prop where
  psr : (∀ rs1 o, i ≠ .wrpsr rs1 o) → t.haz.psr = s.haz.psr.age
  wim : (∀ rs1 o, i ≠ .wrwim rs1 o) → t.haz.wim = s.haz.wim.age
  tbr : (∀ rs1 o, i ≠ .wrtbr rs1 o) → t.haz.tbr = s.haz.tbr.age
  y : (∀ rs1 o, i ≠ .wry rs1 o) → t.haz.y = s.haz.y.age
  ldfsr : (∀ rd rs1 o, i ≠ .ldfsr rd rs1 o) → t.haz.ldfsrCount = s.haz.ldfsrCount - 1
  quirks : (∀ rs1 o, i ≠ .wrpsr rs1 o) → t.haz.pilQuirks = s.haz.agedQuirks
  fpop2 : t.haz.fpop2Prev = true → isCompare i = true
  condBranch : t.haz.prevCondBranch = true → isConditionalBranch i = true
  jmpl : t.haz.prevJmpl = true → isJmpl i = true
  flush : storeRange i s = none → (∀ rs1 o, i ≠ .flush rs1 o) → t.flushPending = flushAge s.flushPending

/-- `t` is a trap entry out of `s`, from a state that may differ from `s` by a half-done access (R113). -/
def EntersTrap (i : Instr) (s t : State) : Prop :=
  ∃ (x : Trap) (u : State), u.trapEt = true ∧ t = u.trapEntry (trapType x) ∧ u.haz = s.haz
    ∧ (storeRange i s = none → u.flushPending = s.flushPending)

/-- The three ways an instruction ends. -/
def Ends (i : Instr) (s t : State) : Prop := t.errorMode = true ∨ EntersTrap i s t ∨ Aged i s t

variable {i : Instr} {s u : State}

/-! ### Every instruction ends so -/

theorem ends_raise (x : Trap) (hhaz : u.haz = s.haz := by simp)
    (hflush : storeRange i s = none → u.flushPending = s.flushPending := by simp) : AllNext (Ends i s) (raise x u) := by
  intro t ht
  obtain ⟨het, rfl⟩ | ⟨-, rfl⟩ := raise_next ht
  · exact .inr (.inl ⟨x, u, het, rfl, hhaz, hflush⟩)
  · exact .inl rfl

/-- The hazards are one instruction older and no mark is left. -/
theorem aged_of_age (hhaz : u.haz = s.haz.age) (hflush : storeRange i s = none → u.flushPending = flushAge s.flushPending) :
    Aged i s u where
  psr _ := by rw [hhaz]; rfl
  wim _ := by rw [hhaz]; rfl
  tbr _ := by rw [hhaz]; rfl
  y _ := by rw [hhaz]; rfl
  ldfsr _ := by rw [hhaz]; rfl
  quirks _ := by rw [hhaz]; rfl
  fpop2 h := by rw [hhaz] at h; cases h
  condBranch h := by rw [hhaz] at h; cases h
  jmpl h := by rw [hhaz] at h; cases h
  flush hr _ := hflush hr

theorem Aged.markBranch (h : Aged i s u) {b : Bool} (hb : b = true → isConditionalBranch i = true) :
    Aged i s (u.markBranch b) := { h with condBranch := hb }
theorem Aged.markFpop2 (h : Aged i s u) (hc : isCompare i = true) : Aged i s u.markFpop2 := { h with fpop2 := fun _ => hc }
theorem Aged.markJmpl (h : Aged i s u) (hj : isJmpl i = true) : Aged i s u.markJmpl := { h with jmpl := fun _ => hj }
theorem Aged.markFetchSpace (h : Aged i s u) (b : Bool) : Aged i s (u.markFetchSpace b) := { h with }

/-- Completing from a state with the hazards of `s`, marking nothing. -/
theorem aged_retire (hhaz : u.haz = s.haz := by simp)
    (hflush : storeRange i s = none → u.flushPending = s.flushPending := by simp) : Aged i s u.retire.advance :=
  aged_of_age (by simp [hhaz]) (fun hr => by simp [hflush hr])

theorem ends_retire (hhaz : u.haz = s.haz := by simp)
    (hflush : storeRange i s = none → u.flushPending = s.flushPending := by simp) : Ends i s u.retire.advance :=
  .inr (.inr (aged_retire hhaz hflush))

/-- A store marks its doubleword, which the flush clause leaves to the stores. -/
theorem ends_stored {ea : Word} {n : Nat} (hr : storeRange i s = some (ea, n)) (hhaz : u.haz = s.haz := by simp) :
    Ends i s u.retire.advance := ends_retire hhaz (fun hn => by rw [hr] at hn; cases hn)

/-- The shapes end in one of the three ways. -/
theorem ends_leaves (i : Instr) (s : State) : Leaves i s (Ends i s) where
  trap t := ends_raise t
  trapReg t rd v := ends_raise t
  trapStore t ea n bs hr _ := ends_raise t rfl (fun hn => by rw [hr] at hn; cases hn)
  trapFsr _ t f _ := ends_raise t
  trapF _ t rd v := ends_raise t
  trapFD _ t rd v := ends_raise t
  plain := ends_retire
  reg rd v := ends_retire
  pair rd v rd' v' := ends_retire
  regIcc rd v c := ends_retire
  regY rd v y := ends_retire
  regIccY rd v c y := ends_retire
  store ea n bs hr _ := ends_stored hr rfl
  storeReg ea n bs rd v hr _ := ends_stored hr (State.setR_haz ..)
  loadF _ rd v := ends_retire
  loadFD _ rd v := ends_retire
  loadFsr _ rd rs1 o w hi :=
    .inr (.inr { aged_retire (u := s.loadFsr w) with ldfsr := fun hne => absurd hi (hne rd rs1 o) })
  fpop _ exc dst rd bits := ends_retire
  compare _ hc exc v := .inr (.inr (Aged.markFpop2 aged_retire hc))
  window w rd v _ := ends_retire
  branch taken unconditional a d b hb := .inr (.inr (Aged.markBranch (aged_of_age (by simp) (by simp)) hb))
  couple b hb := .inr (.inr (Aged.markBranch (aged_of_age rfl (fun _ => rfl)) hb))
  call d := .inr (.inr (aged_of_age (by simp) (by simp)))
  jmpl hj rd ea _ := .inr (.inr (Aged.markJmpl (aged_of_age (by simp) (by simp)) hj))
  rettError _ t := .inl rfl
  rett _ _ w ea b _ _ := .inr (.inr (Aged.markFetchSpace (aged_of_age rfl (fun _ => rfl)) b))
  writeY rs1 o v hi := .inr (.inr { aged_retire (u := s) with y := fun hne => absurd hi (hne rs1 o) })
  writePsr _ rs1 o v hi _ := .inr (.inr { aged_retire (u := s) with
    psr := fun hne => absurd hi (hne rs1 o), quirks := fun hne => absurd hi (hne rs1 o) })
  writeWim _ rs1 o v hi := .inr (.inr { aged_retire (u := s) with wim := fun hne => absurd hi (hne rs1 o) })
  writeTbr _ rs1 o v hi := .inr (.inr { aged_retire (u := s) with tbr := fun hne => absurd hi (hne rs1 o) })
  flush rs1 o hi ea := .inr (.inr { aged_retire (u := s) with flush := fun _ hne => absurd hi (hne rs1 o) })

/-! ### What the ends say of the hazards -/

/-- A trap entry is what raising its trap answers. -/
theorem traps_of_trapEntry {r : Result} {x : Trap} (het : u.trapEt = true) (hr : r = .next (u.trapEntry (trapType x))) :
    traps r x u := ⟨fun _ => hr, fun h => by rw [het] at h; cases h⟩

/-- Settles O60: by the three ways an instruction ends. -/
theorem delayedWritesSettle : Obligations.DelayedWritesSettle := by
  unfold Obligations.DelayedWritesSettle
  intro i s t ht
  obtain herr | ⟨x, u, het, rfl, hhaz, hflush⟩ | h := exec_allNext i s _ (ends_leaves i s) t ht
  · exact .inl herr
  · have trapped : ∃ (x : Trap) (u : State), traps (exec i s) x u := ⟨x, u, traps_of_trapEntry het ht⟩
    have hq : (u.trapEntry (trapType x)).haz.pilQuirks = s.haz.agedQuirks := by rw [State.trapEntry_haz, hhaz]
    exact .inr ⟨fun _ => ⟨.inr ⟨trapped, rfl⟩, fun h0 => absurd rfl h0⟩, fun _ => ⟨.inr ⟨trapped, rfl⟩, fun h0 => absurd rfl h0⟩,
      fun _ => ⟨.inr ⟨trapped, rfl⟩, fun h0 => absurd rfl h0⟩, fun _ => ⟨.inr ⟨trapped, rfl⟩, fun h0 => absurd rfl h0⟩,
      fun _ => .inr ⟨trapped, rfl⟩, fun _ => hq.trans (Hazards.agedQuirks_eq _), nofun, nofun, nofun,
      fun hr _ => .inr ⟨trapped, (State.trapEntry_flushPending ..).trans (hflush hr)⟩⟩
  · refine .inr ⟨fun hne => ?_, fun hne => ?_, fun hne => ?_, fun hne => ?_, fun hne => .inl (h.ldfsr hne),
      fun hne => (h.quirks hne).trans (Hazards.agedQuirks_eq _), h.fpop2, h.condBranch, h.jmpl, fun hr hne => .inl (h.flush hr hne)⟩
    · rw [h.psr hne]; exact ⟨.inl (PsrShadow.age_count _), PsrShadow.age_eq _⟩
    · rw [h.wim hne]; exact ⟨.inl (Shadow.age_count _), Shadow.age_eq _⟩
    · rw [h.tbr hne]; exact ⟨.inl (Shadow.age_count _), Shadow.age_eq _⟩
    · rw [h.y hne]; exact ⟨.inl (Shadow.age_count _), Shadow.age_eq _⟩

end Sys2Proof.Proofs.Settling

end

section
/-! Decoding: the decoder inverts the encoder and yields well-formed instructions only; words of no row trap. Then the cycle: when
an interrupt is taken, and what a fetch executes. -/

set_option Elab.async false

namespace Sys2Proof.Proofs.Decoding
open Sys2Proof.Machine Sys2Proof.Proofs.Step

/-! ### Decode after encode -/

/-- The decoder inverts the encoder, instruction by instruction. -/
theorem decodeWord_encode (i : Instr) : Laws.Encoding.Statement i := by
  cases i with
  | ldsb _ _ _ => exact Laws.Encoding.ldsb _ _ _
  | ldsh _ _ _ => exact Laws.Encoding.ldsh _ _ _
  | ldub _ _ _ => exact Laws.Encoding.ldub _ _ _
  | lduh _ _ _ => exact Laws.Encoding.lduh _ _ _
  | ld _ _ _ => exact Laws.Encoding.ld _ _ _
  | ldd _ _ _ => exact Laws.Encoding.ldd _ _ _
  | ldsba _ _ _ _ _ => exact Laws.Encoding.ldsba _ _ _ _ _
  | ldsha _ _ _ _ _ => exact Laws.Encoding.ldsha _ _ _ _ _
  | lduba _ _ _ _ _ => exact Laws.Encoding.lduba _ _ _ _ _
  | lduha _ _ _ _ _ => exact Laws.Encoding.lduha _ _ _ _ _
  | lda _ _ _ _ _ => exact Laws.Encoding.lda _ _ _ _ _
  | ldda _ _ _ _ _ => exact Laws.Encoding.ldda _ _ _ _ _
  | ldf _ _ _ => exact Laws.Encoding.ldf _ _ _
  | lddf _ _ _ => exact Laws.Encoding.lddf _ _ _
  | ldfsr _ _ _ => exact Laws.Encoding.ldfsr _ _ _
  | ldc _ _ _ => exact Laws.Encoding.ldc _ _ _
  | lddc _ _ _ => exact Laws.Encoding.lddc _ _ _
  | ldcsr _ _ _ => exact Laws.Encoding.ldcsr _ _ _
  | stb _ _ _ => exact Laws.Encoding.stb _ _ _
  | sth _ _ _ => exact Laws.Encoding.sth _ _ _
  | st _ _ _ => exact Laws.Encoding.st _ _ _
  | std _ _ _ => exact Laws.Encoding.std _ _ _
  | stba _ _ _ _ _ => exact Laws.Encoding.stba _ _ _ _ _
  | stha _ _ _ _ _ => exact Laws.Encoding.stha _ _ _ _ _
  | sta _ _ _ _ _ => exact Laws.Encoding.sta _ _ _ _ _
  | stda _ _ _ _ _ => exact Laws.Encoding.stda _ _ _ _ _
  | stf _ _ _ => exact Laws.Encoding.stf _ _ _
  | stdf _ _ _ => exact Laws.Encoding.stdf _ _ _
  | stfsr _ _ _ => exact Laws.Encoding.stfsr _ _ _
  | stdfq _ _ _ => exact Laws.Encoding.stdfq _ _ _
  | stc _ _ _ => exact Laws.Encoding.stc _ _ _
  | stdc _ _ _ => exact Laws.Encoding.stdc _ _ _
  | stcsr _ _ _ => exact Laws.Encoding.stcsr _ _ _
  | stdcq _ _ _ => exact Laws.Encoding.stdcq _ _ _
  | ldstub _ _ _ => exact Laws.Encoding.ldstub _ _ _
  | ldstuba _ _ _ _ _ => exact Laws.Encoding.ldstuba _ _ _ _ _
  | swap _ _ _ => exact Laws.Encoding.swap _ _ _
  | swapa _ _ _ _ _ => exact Laws.Encoding.swapa _ _ _ _ _
  | nop => exact Laws.Encoding.nop
  | sethi _ _ => exact Laws.Encoding.sethi _ _
  | and _ _ _ => exact Laws.Encoding.and _ _ _
  | andcc _ _ _ => exact Laws.Encoding.andcc _ _ _
  | andn _ _ _ => exact Laws.Encoding.andn _ _ _
  | andncc _ _ _ => exact Laws.Encoding.andncc _ _ _
  | or _ _ _ => exact Laws.Encoding.or _ _ _
  | orcc _ _ _ => exact Laws.Encoding.orcc _ _ _
  | orn _ _ _ => exact Laws.Encoding.orn _ _ _
  | orncc _ _ _ => exact Laws.Encoding.orncc _ _ _
  | xor _ _ _ => exact Laws.Encoding.xor _ _ _
  | xorcc _ _ _ => exact Laws.Encoding.xorcc _ _ _
  | xnor _ _ _ => exact Laws.Encoding.xnor _ _ _
  | xnorcc _ _ _ => exact Laws.Encoding.xnorcc _ _ _
  | sll _ _ _ => exact Laws.Encoding.sll _ _ _
  | srl _ _ _ => exact Laws.Encoding.srl _ _ _
  | sra _ _ _ => exact Laws.Encoding.sra _ _ _
  | add _ _ _ => exact Laws.Encoding.add _ _ _
  | addcc _ _ _ => exact Laws.Encoding.addcc _ _ _
  | addx _ _ _ => exact Laws.Encoding.addx _ _ _
  | addxcc _ _ _ => exact Laws.Encoding.addxcc _ _ _
  | taddcc _ _ _ => exact Laws.Encoding.taddcc _ _ _
  | taddcctv _ _ _ => exact Laws.Encoding.taddcctv _ _ _
  | sub _ _ _ => exact Laws.Encoding.sub _ _ _
  | subcc _ _ _ => exact Laws.Encoding.subcc _ _ _
  | subx _ _ _ => exact Laws.Encoding.subx _ _ _
  | subxcc _ _ _ => exact Laws.Encoding.subxcc _ _ _
  | tsubcc _ _ _ => exact Laws.Encoding.tsubcc _ _ _
  | tsubcctv _ _ _ => exact Laws.Encoding.tsubcctv _ _ _
  | mulscc _ _ _ => exact Laws.Encoding.mulscc _ _ _
  | umul _ _ _ => exact Laws.Encoding.umul _ _ _
  | smul _ _ _ => exact Laws.Encoding.smul _ _ _
  | umulcc _ _ _ => exact Laws.Encoding.umulcc _ _ _
  | smulcc _ _ _ => exact Laws.Encoding.smulcc _ _ _
  | udiv _ _ _ => exact Laws.Encoding.udiv _ _ _
  | sdiv _ _ _ => exact Laws.Encoding.sdiv _ _ _
  | udivcc _ _ _ => exact Laws.Encoding.udivcc _ _ _
  | sdivcc _ _ _ => exact Laws.Encoding.sdivcc _ _ _
  | save _ _ _ => exact Laws.Encoding.save _ _ _
  | restore _ _ _ => exact Laws.Encoding.restore _ _ _
  | ba _ _ => exact Laws.Encoding.ba _ _
  | bn _ _ => exact Laws.Encoding.bn _ _
  | bne _ _ => exact Laws.Encoding.bne _ _
  | be _ _ => exact Laws.Encoding.be _ _
  | bg _ _ => exact Laws.Encoding.bg _ _
  | ble _ _ => exact Laws.Encoding.ble _ _
  | bge _ _ => exact Laws.Encoding.bge _ _
  | bl _ _ => exact Laws.Encoding.bl _ _
  | bgu _ _ => exact Laws.Encoding.bgu _ _
  | bleu _ _ => exact Laws.Encoding.bleu _ _
  | bcc _ _ => exact Laws.Encoding.bcc _ _
  | bcs _ _ => exact Laws.Encoding.bcs _ _
  | bpos _ _ => exact Laws.Encoding.bpos _ _
  | bneg _ _ => exact Laws.Encoding.bneg _ _
  | bvc _ _ => exact Laws.Encoding.bvc _ _
  | bvs _ _ => exact Laws.Encoding.bvs _ _
  | fba _ _ => exact Laws.Encoding.fba _ _
  | fbn _ _ => exact Laws.Encoding.fbn _ _
  | fbu _ _ => exact Laws.Encoding.fbu _ _
  | fbg _ _ => exact Laws.Encoding.fbg _ _
  | fbug _ _ => exact Laws.Encoding.fbug _ _
  | fbl _ _ => exact Laws.Encoding.fbl _ _
  | fbul _ _ => exact Laws.Encoding.fbul _ _
  | fblg _ _ => exact Laws.Encoding.fblg _ _
  | fbne _ _ => exact Laws.Encoding.fbne _ _
  | fbe _ _ => exact Laws.Encoding.fbe _ _
  | fbue _ _ => exact Laws.Encoding.fbue _ _
  | fbge _ _ => exact Laws.Encoding.fbge _ _
  | fbuge _ _ => exact Laws.Encoding.fbuge _ _
  | fble _ _ => exact Laws.Encoding.fble _ _
  | fbule _ _ => exact Laws.Encoding.fbule _ _
  | fbo _ _ => exact Laws.Encoding.fbo _ _
  | cba _ _ => exact Laws.Encoding.cba _ _
  | cbn _ _ => exact Laws.Encoding.cbn _ _
  | cb3 _ _ => exact Laws.Encoding.cb3 _ _
  | cb2 _ _ => exact Laws.Encoding.cb2 _ _
  | cb23 _ _ => exact Laws.Encoding.cb23 _ _
  | cb1 _ _ => exact Laws.Encoding.cb1 _ _
  | cb13 _ _ => exact Laws.Encoding.cb13 _ _
  | cb12 _ _ => exact Laws.Encoding.cb12 _ _
  | cb123 _ _ => exact Laws.Encoding.cb123 _ _
  | cb0 _ _ => exact Laws.Encoding.cb0 _ _
  | cb03 _ _ => exact Laws.Encoding.cb03 _ _
  | cb02 _ _ => exact Laws.Encoding.cb02 _ _
  | cb023 _ _ => exact Laws.Encoding.cb023 _ _
  | cb01 _ _ => exact Laws.Encoding.cb01 _ _
  | cb013 _ _ => exact Laws.Encoding.cb013 _ _
  | cb012 _ _ => exact Laws.Encoding.cb012 _ _
  | call _ => exact Laws.Encoding.call _
  | jmpl _ _ _ => exact Laws.Encoding.jmpl _ _ _
  | rett _ _ => exact Laws.Encoding.rett _ _
  | ta _ _ => exact Laws.Encoding.ta _ _
  | tn _ _ => exact Laws.Encoding.tn _ _
  | tne _ _ => exact Laws.Encoding.tne _ _
  | te _ _ => exact Laws.Encoding.te _ _
  | tg _ _ => exact Laws.Encoding.tg _ _
  | tle _ _ => exact Laws.Encoding.tle _ _
  | tge _ _ => exact Laws.Encoding.tge _ _
  | tl _ _ => exact Laws.Encoding.tl _ _
  | tgu _ _ => exact Laws.Encoding.tgu _ _
  | tleu _ _ => exact Laws.Encoding.tleu _ _
  | tcc _ _ => exact Laws.Encoding.tcc _ _
  | tcs _ _ => exact Laws.Encoding.tcs _ _
  | tpos _ _ => exact Laws.Encoding.tpos _ _
  | tneg _ _ => exact Laws.Encoding.tneg _ _
  | tvc _ _ => exact Laws.Encoding.tvc _ _
  | tvs _ _ => exact Laws.Encoding.tvs _ _
  | rdy _ => exact Laws.Encoding.rdy _
  | stbar => exact Laws.Encoding.stbar
  | rdasr _ _ => exact Laws.Encoding.rdasr _ _
  | rdpsr _ => exact Laws.Encoding.rdpsr _
  | rdwim _ => exact Laws.Encoding.rdwim _
  | rdtbr _ => exact Laws.Encoding.rdtbr _
  | wry _ _ => exact Laws.Encoding.wry _ _
  | wrasr _ _ _ => exact Laws.Encoding.wrasr _ _ _
  | wrpsr _ _ => exact Laws.Encoding.wrpsr _ _
  | wrwim _ _ => exact Laws.Encoding.wrwim _ _
  | wrtbr _ _ => exact Laws.Encoding.wrtbr _ _
  | unimp _ => exact Laws.Encoding.unimp _
  | flush _ _ => exact Laws.Encoding.flush _ _
  | fitos _ _ => exact Laws.Encoding.fitos _ _
  | fitod _ _ => exact Laws.Encoding.fitod _ _
  | fitoq _ _ => exact Laws.Encoding.fitoq _ _
  | fstoi _ _ => exact Laws.Encoding.fstoi _ _
  | fdtoi _ _ => exact Laws.Encoding.fdtoi _ _
  | fqtoi _ _ => exact Laws.Encoding.fqtoi _ _
  | fstod _ _ => exact Laws.Encoding.fstod _ _
  | fstoq _ _ => exact Laws.Encoding.fstoq _ _
  | fdtos _ _ => exact Laws.Encoding.fdtos _ _
  | fdtoq _ _ => exact Laws.Encoding.fdtoq _ _
  | fqtos _ _ => exact Laws.Encoding.fqtos _ _
  | fqtod _ _ => exact Laws.Encoding.fqtod _ _
  | fmovs _ _ => exact Laws.Encoding.fmovs _ _
  | fnegs _ _ => exact Laws.Encoding.fnegs _ _
  | fabss _ _ => exact Laws.Encoding.fabss _ _
  | fsqrts _ _ => exact Laws.Encoding.fsqrts _ _
  | fsqrtd _ _ => exact Laws.Encoding.fsqrtd _ _
  | fsqrtq _ _ => exact Laws.Encoding.fsqrtq _ _
  | fadds _ _ _ => exact Laws.Encoding.fadds _ _ _
  | faddd _ _ _ => exact Laws.Encoding.faddd _ _ _
  | faddq _ _ _ => exact Laws.Encoding.faddq _ _ _
  | fsubs _ _ _ => exact Laws.Encoding.fsubs _ _ _
  | fsubd _ _ _ => exact Laws.Encoding.fsubd _ _ _
  | fsubq _ _ _ => exact Laws.Encoding.fsubq _ _ _
  | fmuls _ _ _ => exact Laws.Encoding.fmuls _ _ _
  | fmuld _ _ _ => exact Laws.Encoding.fmuld _ _ _
  | fmulq _ _ _ => exact Laws.Encoding.fmulq _ _ _
  | fsmuld _ _ _ => exact Laws.Encoding.fsmuld _ _ _
  | fdmulq _ _ _ => exact Laws.Encoding.fdmulq _ _ _
  | fdivs _ _ _ => exact Laws.Encoding.fdivs _ _ _
  | fdivd _ _ _ => exact Laws.Encoding.fdivd _ _ _
  | fdivq _ _ _ => exact Laws.Encoding.fdivq _ _ _
  | fcmps _ _ => exact Laws.Encoding.fcmps _ _
  | fcmpd _ _ => exact Laws.Encoding.fcmpd _ _
  | fcmpq _ _ => exact Laws.Encoding.fcmpq _ _
  | fcmpes _ _ => exact Laws.Encoding.fcmpes _ _
  | fcmped _ _ => exact Laws.Encoding.fcmped _ _
  | fcmpeq _ _ => exact Laws.Encoding.fcmpeq _ _
  | cpop1 _ _ _ _ => exact Laws.Encoding.cpop1 _ _ _ _
  | cpop2 _ _ _ _ => exact Laws.Encoding.cpop2 _ _ _ _

/-! ### What decodes is well-formed -/

theorem decodeBicc_wf (c : BitVec 4) (a : Bool) (d : BitVec 22) : (decodeBicc c a d).wf = true := by
  unfold decodeBicc; split <;> rfl

theorem decodeFBfcc_wf (c : BitVec 4) (a : Bool) (d : BitVec 22) : (decodeFBfcc c a d).wf = true := by
  unfold decodeFBfcc; split <;> rfl

theorem decodeCBccc_wf (c : BitVec 4) (a : Bool) (d : BitVec 22) : (decodeCBccc c a d).wf = true := by
  unfold decodeCBccc; split <;> rfl

theorem decodeTicc_wf (c : BitVec 4) (rs1 : Reg) (o : TrapOperand) : (decodeTicc c rs1 o).wf = true := by
  unfold decodeTicc; split <;> rfl

theorem decodeReadAsr_wf (rd rs1 : Reg) : (decodeReadAsr rd rs1).wf = true := by
  unfold decodeReadAsr
  split
  · rfl
  · next h0 =>
    split
    · rfl
    · next h15 => simpa [Instr.wf, imp_iff_not_or] using And.intro h0 (not_and_or.mp h15)

theorem decodeWriteAsr_wf (rd rs1 : Reg) (o : RegOrImm) : (decodeWriteAsr rd rs1 o).wf = true := by
  unfold decodeWriteAsr
  split
  · rfl
  · next h => simpa [Instr.wf] using h

theorem decodeSethi_wf (rd : Reg) (imm22 : BitVec 22) :
    (if rd = 0 ∧ imm22 = 0 then Instr.nop else .sethi rd imm22).wf = true := by
  split
  · rfl
  · next h => simpa [Instr.wf] using not_and_or.mp h

/-- An answer, if it is an instruction, is a well-formed one. -/
def OkWf (r : Except Reject Instr) : Prop := ∀ i, r = .ok i → i.wf = true

theorem okWf_ok {i : Instr} (h : i.wf = true) : OkWf (.ok i) := fun _ hi => Except.ok.inj hi ▸ h
theorem okWf_error (rej : Reject) : OkWf (.error rej) := nofun

theorem decodeFpop1_okWf (opf : BitVec 9) (rd rs1 rs2 : Reg) : OkWf (decodeFpop1 opf rd rs1 rs2) := by
  unfold decodeFpop1
  split
  any_goals exact okWf_ok rfl
  exact okWf_error _

theorem decodeFpop2_okWf (opf : BitVec 9) (rs1 rs2 : Reg) : OkWf (decodeFpop2 opf rs1 rs2) := by
  unfold decodeFpop2
  split
  any_goals exact okWf_ok rfl
  exact okWf_error _

theorem decodeFormat2_okWf (rd : Reg) (op2 : BitVec 3) (imm22 : BitVec 22) : OkWf (decodeFormat2 rd op2 imm22) := by
  unfold decodeFormat2
  split
  · exact okWf_ok rfl
  · exact okWf_ok (decodeBicc_wf ..)
  · exact okWf_ok (decodeSethi_wf ..)
  · exact okWf_ok (decodeFBfcc_wf ..)
  · exact okWf_ok (decodeCBccc_wf ..)
  · exact okWf_error _

/-- Only the rows that share an op3 with another need the fields' values. -/
theorem decodeArith_okWf (op3 : BitVec 6) (rd rs1 : Reg) (low : BitVec 14) : OkWf (decodeArith op3 rd rs1 low) := by
  unfold decodeArith
  split
  any_goals exact okWf_ok rfl
  · exact okWf_ok (decodeReadAsr_wf ..)
  · exact okWf_ok (decodeWriteAsr_wf ..)
  · exact decodeFpop1_okWf _ _ _ _
  · exact decodeFpop2_okWf _ _ _
  · exact okWf_ok (decodeTicc_wf ..)
  · exact okWf_error _

theorem decodeMem_okWf (op3 : BitVec 6) (rd rs1 : Reg) (low : BitVec 14) : OkWf (decodeMem op3 rd rs1 low) := by
  unfold decodeMem
  split
  any_goals exact okWf_ok rfl
  exact okWf_error _

theorem decodeWord_okWf (w : Word) : OkWf (decodeWord w) := by
  unfold decodeWord
  split
  · exact decodeFormat2_okWf _ _ _
  · exact okWf_ok rfl
  · exact decodeArith_okWf _ _ _ _
  · exact decodeMem_okWf _ _ _ _

/-- Settles O4: a word is its bytes, the decoder inverts the encoder, and its tables name well-formed instructions. -/
theorem decodeInvertsEncode : Obligations.DecodeInvertsEncode := by
  unfold Obligations.DecodeInvertsEncode
  refine ⟨fun i hwf => ?_, fun b0 b1 b2 b3 i h => decodeWord_okWf _ i h⟩
  rw [decodeBytes, Laws.wordOfBytes_byteOfWord]
  exact decodeWord_encode i hwf

/-- Settles O5: by decoding the words. -/
theorem exampleWordsDecode : Obligations.ExampleWordsDecode := by
  unfold Obligations.ExampleWordsDecode
  decide

/-! ### Words of no row -/

theorem decodeFormat2_unassigned {op2 : BitVec 3} (h : op2 ∈ [(1 : BitVec 3), 3, 5]) (rd : Reg) (imm22 : BitVec 22) :
    decodeFormat2 rd op2 imm22 = .error .unassignedOp2 := by
  simp only [List.mem_cons, List.not_mem_nil, or_false] at h
  rcases h with rfl | rfl | rfl <;> rfl

theorem decodeArith_unassigned {op3 : BitVec 6}
    (h : op3 ∈ [(0x09 : BitVec 6), 0x0D, 0x19, 0x1D, 0x2C, 0x2D, 0x2E, 0x2F, 0x3E, 0x3F]) (rd rs1 : Reg) (low : BitVec 14) :
    decodeArith op3 rd rs1 low = .error .unassignedArith := by
  simp only [List.mem_cons, List.not_mem_nil, or_false] at h
  rcases h with rfl | rfl | rfl | rfl | rfl | rfl | rfl | rfl | rfl | rfl <;> rfl

theorem decodeMem_unassigned {op3 : BitVec 6}
    (h : op3 ∈ [(0x08 : BitVec 6), 0x0B, 0x0C, 0x0E, 0x18, 0x1B, 0x1C, 0x1E, 0x22, 0x28, 0x29, 0x2A, 0x2B, 0x2C, 0x2D, 0x2E, 0x2F,
      0x32, 0x38, 0x39, 0x3A, 0x3B, 0x3C, 0x3D, 0x3E, 0x3F]) (rd rs1 : Reg) (low : BitVec 14) :
    decodeMem op3 rd rs1 low = .error .unassignedMem := by
  simp only [List.mem_cons, List.not_mem_nil, or_false] at h
  rcases h with rfl | rfl | rfl | rfl | rfl | rfl | rfl | rfl | rfl | rfl | rfl | rfl | rfl | rfl | rfl | rfl | rfl | rfl | rfl
    | rfl | rfl | rfl | rfl | rfl | rfl | rfl <;> rfl

theorem decodeFpop1_error {opf : BitVec 9} {rd rs1 rs2 : Reg} {rej : Reject} (h : decodeFpop1 opf rd rs1 rs2 = .error rej) :
    rej = .unassignedFpop1 := by
  unfold decodeFpop1 at h
  split at h
  any_goals cases h
  rfl

theorem decodeFpop2_error {opf : BitVec 9} {rs1 rs2 : Reg} {rej : Reject} (h : decodeFpop2 opf rs1 rs2 = .error rej) :
    rej = .unassignedFpop2 := by
  unfold decodeFpop2 at h
  split at h
  any_goals cases h
  rfl

theorem decodeWord_of_op0 {w : Word} (h : opField w = 0) :
    decodeWord w = decodeFormat2 (rdField w) (op2Field w) (imm22Field w) := by simp [decodeWord, h]
theorem decodeWord_of_op2 {w : Word} (h : opField w = 2) :
    decodeWord w = decodeArith (op3Field w) (rdField w) (rs1Field w) (lowField w) := by simp [decodeWord, h]
theorem decodeWord_of_op3 {w : Word} (h : opField w = 3) :
    decodeWord w = decodeMem (op3Field w) (rdField w) (rs1Field w) (lowField w) := by simp [decodeWord, h]

/-- A word of the FPop space that is no instruction is an unassigned opf. -/
theorem decodeWord_fpopSpace {w : Word} (h : opField w = 2) (h3 : op3Field w ∈ [(0x34 : BitVec 6), 0x35])
    (hno : ∀ i, decodeWord w ≠ .ok i) :
    decodeWord w = .error .unassignedFpop1 ∨ decodeWord w = .error .unassignedFpop2 := by
  cases hd : decodeWord w with
  | ok i => exact absurd hd (hno i)
  | error rej =>
    rw [decodeWord_of_op2 h] at hd
    simp only [List.mem_cons, List.not_mem_nil, or_false] at h3
    rcases h3 with h3 | h3 <;> rw [h3] at hd
    · rw [decodeFpop1_error hd]; exact .inl rfl
    · rw [decodeFpop2_error hd]; exact .inr rfl

theorem execUnassigned_fpop {rej : Reject} (h : rej = .unassignedFpop1 ∨ rej = .unassignedFpop2) (s : State) :
    execUnassigned rej s = needFpu s (fpTrap 3 s) := by rcases h with rfl | rfl <;> rfl

/-- Settles O7: by the decode tables' default rows. -/
theorem unassignedWordsTrap : Obligations.UnassignedWordsTrap := by
  unfold Obligations.UnassignedWordsTrap
  refine fun w s => ⟨fun h => ?_, fun ⟨h, h3, hno⟩ => ?_⟩
  · rcases h with ⟨h, h2⟩ | ⟨h, h3⟩ | ⟨h, h3⟩
    · rw [execWord_error ((decodeWord_of_op0 h).trans (decodeFormat2_unassigned h2 _ _))]; exact raise_cases _ s
    · rw [execWord_error ((decodeWord_of_op2 h).trans (decodeArith_unassigned h3 _ _ _))]; exact raise_cases _ s
    · rw [execWord_error ((decodeWord_of_op3 h).trans (decodeMem_unassigned h3 _ _ _))]; exact raise_cases _ s
  · have hex : execWord w s = needFpu s (fpTrap 3 s) := by
      rcases decodeWord_fpopSpace h h3 hno with hd | hd <;> rw [execWord_error hd]
      · exact execUnassigned_fpop (.inl rfl) s
      · exact execUnassigned_fpop (.inr rfl) s
    rw [hex]
    refine ⟨fun hf => ?_, fun hf => ?_⟩
    · rw [needFpu_trap hf]; exact raise_cases _ s
    · rw [needFpu_ok hf]; exact raise_cases _ _

end Sys2Proof.Proofs.Decoding

namespace Sys2Proof.Proofs.Cycle
open Sys2Proof.Machine Sys2Proof.Proofs.Step

/-! ### What a fetch executes -/

variable {s : State}

theorem step_of_not_interrupted (he : s.errorMode = false) (hi : s.interruptTaken = false) :
    step s = tickResult (fetchExecute s) := by
  rw [step_of_running he, cycle, hi]; rfl

theorem fetchExecute_of_fault {f : AccessFault} (h : s.memFault s.iasi s.pc 4 .fetch = some f) :
    fetchExecute s = raise (fetchTrap f) s := by simp [fetchExecute, h]

theorem fetchExecute_of_no_fault (h : s.memFault s.iasi s.pc 4 .fetch = none) : fetchExecute s = execWord s.fetchedWord s := by
  simp [fetchExecute, h]

theorem fetchedWord_coherent (h : flushFind s.flushPending (doublewordOf s.pc) = none) : s.fetchedWord = s.word s.pc := by
  simp [State.fetchedWord, State.staleFetch, h]

theorem fetchedWord_stale (h : (flushFind s.flushPending (doublewordOf s.pc)).isSome = true) :
    s.fetchedWord = Config.freeFetchWord s.freeCount := by simp [State.fetchedWord, State.staleFetch, h]

/-- Settles O6: the word at PC is its four bytes. -/
theorem stepRunsDecodedInstruction : Obligations.StepRunsDecodedInstruction := by
  unfold Obligations.StepRunsDecodedInstruction
  intro s i he hi hf hc hd
  have hstep : step s = tickResult (exec i s) := by
    rw [step_of_not_interrupted he hi, fetchExecute_of_no_fault hf, fetchedWord_coherent hc]
    exact congrArg tickResult (execWord_ok hd s)
  exact ⟨hstep, fun t ht => by rw [hstep, ht]; rfl⟩

/-! ### When an interrupt is taken -/

theorem accepts_iff (het : s.psr.et = true) (pil : BitVec 4) : s.accepts pil = true ↔ accepted pil s.requestLevel := by
  simp [State.accepts, accepted, het]

theorem quirkCovers_iff (het : s.psr.et = true) (q : PilQuirk) : s.quirkCovers q = true ↔
    0 < q.count ∧ (q.old = s.requestLevel ∨ ¬ (accepted q.old s.requestLevel ↔ accepted s.psr.pil s.requestLevel)) := by
  rw [← accepts_iff het, ← accepts_iff het, ← Bool.eq_iff_iff]
  simp only [State.quirkCovers, Bool.and_eq_true, decide_eq_true_eq, Bool.or_eq_true, bne_iff_ne, beq_iff_eq]
  rw [or_comm, eq_comm (a := s.requestLevel)]

theorem quirkDraws_iff (het : s.psr.et = true) : s.quirkDraws = true ↔ quirkOpen s s.requestLevel := by
  simp only [State.quirkDraws, quirkOpen, het, Bool.true_and, Bool.and_eq_true, bne_iff_ne, List.any_eq_true, quirkCovers_iff het]

/-- Traps enabled and no quirk open: the acceptance test decides. -/
theorem interruptTaken_iff (het : s.psr.et = true) (hq : ¬ quirkOpen s s.requestLevel) :
    s.interruptTaken = true ↔ accepted s.psr.pil s.requestLevel := by
  rw [State.interruptTaken, if_neg (mt (quirkDraws_iff het).mp hq), accepts_iff het]

theorem interruptTaken_quirk (het : s.psr.et = true) (hq : quirkOpen s s.requestLevel) :
    s.interruptTaken = Config.drawPilQuirk s.freeCount := by
  rw [State.interruptTaken, if_pos ((quirkDraws_iff het).mpr hq)]

theorem interruptTaken_et_off (het : s.psr.et = false) : s.interruptTaken = false := by
  by_contra h
  rw [et_of_interruptTaken (by simpa using h)] at het
  cases het

theorem trapType_interrupt (level : BitVec 4) : trapType (.interrupt level) = BitVec.ofNat 8 (0x10 + level.toNat) := by
  revert level; decide

theorem step_interrupted (he : s.errorMode = false) (hi : s.interruptTaken = true) :
    step s = .next (s.trapEntry (BitVec.ofNat 8 (0x10 + s.requestLevel.toNat))).tick := by
  rw [step_of_running he, cycle, if_pos hi, trapType_interrupt]; rfl

/-- Settles O33: by the acceptance test, or the draw where a quirk is open. -/
theorem interruptIsTaken : Obligations.InterruptIsTaken := by
  unfold Obligations.InterruptIsTaken
  intro s level rest he het hirl
  have hlevel : s.requestLevel = level := by simp [State.requestLevel, hirl]
  subst hlevel
  refine ⟨fun hq ha => step_interrupted he ((interruptTaken_iff het hq).mpr ha), fun hq => ?_⟩
  have hdraw := interruptTaken_quirk het hq
  cases hd : Config.drawPilQuirk s.freeCount with
  | true => exact step_interrupted he (hdraw.trans hd)
  | false => exact step_of_not_interrupted he (hdraw.trans hd)

/-- Settles O34: with ET = 0 no request is taken; with ET = 1 the acceptance test fails. -/
theorem interruptIsIgnored : Obligations.InterruptIsIgnored := by
  unfold Obligations.InterruptIsIgnored
  intro s he h
  refine step_of_not_interrupted he ?_
  cases het : s.psr.et with
  | false => exact interruptTaken_et_off het
  | true =>
    rcases h with h | ⟨hq, ha⟩
    · rw [het] at h; cases h
    · exact Bool.eq_false_iff.mpr (mt (interruptTaken_iff het hq).mp ha)

end Sys2Proof.Proofs.Cycle

end

section
/-! Registers through the windows, and the integer instructions that write r[rd], icc and Y and complete: logical, shift, SETHI,
arithmetic, SAVE and RESTORE, and the reads of the state registers. -/

set_option Elab.async false

namespace Sys2Proof.Proofs.Registers
open Sys2Proof.Machine

/-! ### The window scheme -/

theorem toNat_reg {n : Nat} (h : n < 32) : (BitVec.ofNat 5 n).toNat = n := by
  rw [BitVec.toNat_ofNat]; exact Nat.mod_eq_of_lt h

/-- Registers with one slot are one register. -/
theorem rw_eq_of_slot (s : State) {w v : Nat} {i j : Reg} (hi : 8 ≤ i.toNat) (hj : 8 ≤ j.toNat)
    (h : State.slot w i = State.slot v j) : s.rw w i = s.rw v j := by
  rw [State.rw_window s w (by omega), State.rw_window s v (by omega)]
  congr 1

/-- The outs of a window are the ins of the window below (R24). -/
theorem outs_eq_ins_below (s : State) {w k : Nat} (hw : w < Config.nwindows) (hk : k < 8) :
    s.rw w (BitVec.ofNat 5 (8 + k)) = s.rw ((w + Config.nwindows - 1) % Config.nwindows) (BitVec.ofNat 5 (24 + k)) := by
  have ho := toNat_reg (n := 8 + k) (by omega)
  have hi := toNat_reg (n := 24 + k) (by omega)
  refine rw_eq_of_slot s (by omega) (by omega) ?_
  simp only [State.slot, ho, hi, Config.nwindows] at *
  omega

/-- Settles O9: by the slots of the registers. -/
theorem adjacentWindowsOverlap : Obligations.AdjacentWindowsOverlap := by
  unfold Obligations.AdjacentWindowsOverlap
  refine ⟨fun s w k hw hk => outs_eq_ins_below s hw hk, fun w v k j hw hv hk h => ?_,
    fun s k hk => outs_eq_ins_below s (w := 0) (by decide) hk⟩
  have hl := toNat_reg (n := 16 + k) (by omega)
  have hj := j.isLt
  unfold sameReg at h
  rw [if_neg (by omega)] at h
  obtain ⟨hj8, hslot⟩ := h
  simp only [State.slot, hl, Config.nwindows] at hslot hw hv
  exact ⟨by omega, BitVec.eq_of_toNat_eq (by omega)⟩

/-- Settles O10: by what a register reads after a write, and the fields `setRw` leaves. -/
theorem registerWriteIsReadBack : Obligations.RegisterWriteIsReadBack := by
  unfold Obligations.RegisterWriteIsReadBack
  exact fun s w i v => ⟨fun u j hi h => rw_setRw_same s w i v u j hi h, rw_setRw_other s w i v, by simp, by simp, by simp,
    by simp, by simp, by simp, by simp, by simp, by simp, by simp [systemKept]⟩

end Sys2Proof.Proofs.Registers

namespace Sys2Proof.Proofs.Integer
open Sys2Proof.Machine Sys2Proof.Proofs.Arithmetic Sys2Proof.Proofs.Step

/-! ### Completing with writes to r[rd], icc and Y -/

/-- Writing one r register and Y and completing. -/
theorem finish_setY_spec (s : State) (rd : Reg) (v y : Word) : ∃ t, finish ((s.setR rd v).setY y) = .next t ∧ sequential s t
    ∧ writesReg s t s.cwpRead rd v ∧ t.psr = s.psr ∧ t.y = yWith s y ∧ integerFrame s t :=
  ⟨_, rfl, sequential_finish _ (by simp), writesReg_congr (writesReg_setRw s _ rd v) (by simp [State.setR]) (by simp [State.setR]),
    by simp, by simp [setY_y_eq, yWith], integerFrame_finish (by simp) (by simp) (by simp) (by simp) (by simp) (by simp)
      (by simp) (by simp) (by simp) (by simp) (by simp)⟩

/-- Writing one r register, icc and Y and completing. -/
theorem finish_setIcc_setY_spec (s : State) (rd : Reg) (v : Word) (c : Icc) (y : Word) :
    ∃ t, finish (((s.setR rd v).setIcc c).setY y) = .next t ∧ sequential s t ∧ writesReg s t s.cwpRead rd v
      ∧ t.psr = psrWithIcc s c ∧ t.y = yWith s y ∧ integerFrame s t :=
  ⟨_, rfl, sequential_finish _ (by simp), writesReg_congr (writesReg_setRw s _ rd v) (by simp [State.setR]) (by simp [State.setR]),
    by rw [State.advance_psr, State.retire_psr, State.setY_psr, setIcc_psr_eq]; simp [psrWithIcc],
    by simp [setY_y_eq, yWith],
    integerFrame_finish (by simp) (by simp) (by simp) (by simp) (by simp) (by simp) (by simp) (by simp) (by simp) (by simp)
      (by simp)⟩

/-! ### Logical, shift, SETHI -/

/-- Settles O11: each form writes its result, a cc form with the codes of the result. -/
theorem logicalResults : Obligations.LogicalResults := by
  unfold Obligations.LogicalResults
  intro s rd rs1 o
  have both (v : Word) := And.intro (writeReg_spec s rd v) (writeRegCc_spec s rd v (logicIcc v))
  simp only [List.forall_mem_cons]
  exact ⟨both _, both _, both _, both _, both _, both _, List.forall_mem_nil _⟩

theorem shiftCount_reg (s : State) (rs2 : Reg) : s.shiftCount (.reg rs2) = (s.r rs2).toNat % 32 := by
  simp [State.shiftCount, BitVec.extractLsb'_toNat]

/-- Settles O12: the count is that of R320, and the shifts write their result. -/
theorem shiftResults : Obligations.ShiftResults := by
  unfold Obligations.ShiftResults
  intro s rd rs1 rs2 shcnt
  simp only [List.forall_mem_cons, ← shiftCount_reg]
  exact ⟨⟨writeReg_spec s rd _, writeReg_spec s rd _, writeReg_spec s rd _, List.forall_mem_nil _⟩,
    ⟨writeReg_spec s rd _, writeReg_spec s rd _, writeReg_spec s rd _, List.forall_mem_nil _⟩, List.forall_mem_nil _⟩

theorem imm22_shifted (imm22 : BitVec 22) : (imm22 ++ 0#10 : Word) = BitVec.ofNat 32 (imm22.toNat * 1024) := by
  apply BitVec.eq_of_toNat_eq
  have := imm22.isLt
  rw [BitVec.toNat_append, BitVec.toNat_ofNat, Nat.shiftLeft_eq]
  simp
  omega

/-- Settles O13. -/
theorem sethiNopStbarResults : Obligations.SethiNopStbarResults := by
  unfold Obligations.SethiNopStbarResults
  intro s rd imm22
  simp only [List.forall_mem_cons, ← imm22_shifted]
  exact ⟨writeReg_spec s rd _, finish_spec s, finish_spec s, List.forall_mem_nil _⟩

/-! ### Addition and subtraction -/

theorem carry_toNat (c : Bool) : (if c then 1 else 0 : Word).toNat = c.toNat := by cases c <;> rfl

theorem addResult_eq (a b : Word) (c : Bool) : addResult a b c = a + b + (if c then 1 else 0) := by
  apply BitVec.eq_of_toNat_eq
  rw [addResult_toNat, BitVec.toNat_add, BitVec.toNat_add, carry_toNat]
  omega

theorem subResult_eq (a b : Word) (c : Bool) : subResult a b c = a - b - (if c then 1 else 0) := by
  have h := subResult_toNat a b c
  have hc := c.toNat_le
  have hr := (subResult a b c).isLt
  apply BitVec.eq_of_toNat_eq
  rw [BitVec.toNat_sub, BitVec.toNat_sub, carry_toNat]
  omega

theorem addResult_eq_add (a b : Word) : addResult a b false = a + b := by simp [addResult_eq]
theorem subResult_eq_sub (a b : Word) : subResult a b false = a - b := by simp [subResult_eq]

/-- Settles O14: the sums and differences are those of the words. -/
theorem addSubtractResults : Obligations.AddSubtractResults := by
  unfold Obligations.AddSubtractResults
  intro s rd rs1 o a b c
  have both (v : Word) (cc : Icc) := And.intro (writeReg_spec s rd v) (writeRegCc_spec s rd v cc)
  simp only [List.forall_mem_cons]
  rw [← addResult_eq, ← subResult_eq, ← addResult_eq_add, ← subResult_eq_sub]
  exact ⟨both _ _, both _ _, both _ _, both _ _, List.forall_mem_nil _⟩

/-! ### Tagged arithmetic -/

theorem tagBits_eq (a b : Word) : tagBits a b = decide (a.toNat % 4 ≠ 0 ∨ b.toNat % 4 ≠ 0) := by
  have low (w : Word) : (w.extractLsb' 0 2 != 0) = decide (w.toNat % 4 ≠ 0) := by
    rw [bne, Bool.eq_iff_iff]
    simp [← BitVec.toNat_inj, BitVec.extractLsb'_toNat]
  rw [tagBits, low, low, Bool.decide_or]

/-- A tagged operation and its TV form, where `ovf` is the tag overflow. -/
theorem tagged_spec (s : State) (rd : Reg) (v : Word) (cc : Icc) (ovf : Bool) (hv : ovf = false → cc.v = false) :
    (∃ t, writeRegCc s rd v { cc with v := ovf } = .next t ∧ sequential s t ∧ writesReg s t s.cwpRead rd v
      ∧ t.psr = psrWithIcc s { cc with v := ovf } ∧ t.y = s.y ∧ integerFrame s t)
    ∧ (ovf = true → traps (raiseIf ovf .tagOverflow s (writeRegCc s rd v { cc with v := false })) .tagOverflow s)
    ∧ (ovf = false → ∃ t, raiseIf ovf .tagOverflow s (writeRegCc s rd v { cc with v := false }) = .next t ∧ sequential s t
        ∧ writesReg s t s.cwpRead rd v ∧ t.psr = psrWithIcc s cc ∧ t.y = s.y ∧ integerFrame s t) := by
  refine ⟨writeRegCc_spec s rd v _, ?_, ?_⟩
  · rintro rfl
    exact raise_cases _ s
  · rintro rfl
    have hcc : { cc with v := false } = cc := by rw [← hv rfl]
    rw [raiseIf_false, hcc]
    exact writeRegCc_spec s rd v cc

/-- Settles O17: the tag overflow is that of R346. -/
theorem taggedResults : Obligations.TaggedResults := by
  unfold Obligations.TaggedResults
  intro s rd rs1 o a b bits
  have hbits : bits = tagBits a b := (tagBits_eq a b).symm
  simp only [List.forall_mem_cons]
  rw [hbits, ← addResult_eq_add, ← subResult_eq_sub]
  exact ⟨tagged_spec s rd _ (addIcc a b false) _ (fun h => (Bool.or_eq_false_iff.mp h).2),
    tagged_spec s rd _ (subIcc a b false) _ (fun h => (Bool.or_eq_false_iff.mp h).2), List.forall_mem_nil _⟩

/-! ### Multiplication -/

theorem extract_one (w : Word) : w.extractLsb' 0 1 = BitVec.ofBool (w.getLsbD 0) := by
  ext i hi
  obtain rfl : i = 0 := by omega
  simp

/-- Settles O18: the operands are read before the writes. -/
theorem multiplyStepResult : Obligations.MultiplyStepResult := by
  unfold Obligations.MultiplyStepResult
  intro s rd rs1 o op1 add2
  rw [← extract_one, ← addResult_eq_add]
  exact finish_setIcc_setY_spec s rd _ _ _

theorem lowWord_ofInt (n : Int) : lowWord (BitVec.ofInt 64 n) = BitVec.ofInt 32 n := by
  apply BitVec.eq_of_toNat_eq
  rw [lowWord, BitVec.extractLsb'_toNat, BitVec.toNat_ofInt, BitVec.toNat_ofInt, Nat.shiftRight_zero]
  omega

theorem highWord_ofInt (n : Int) : highWord (BitVec.ofInt 64 n) = BitVec.ofInt 32 (n / 2 ^ 32) := by
  apply BitVec.eq_of_toNat_eq
  rw [highWord, BitVec.extractLsb'_toNat, BitVec.toNat_ofInt, BitVec.toNat_ofInt, Nat.shiftRight_eq_div_pow]
  omega

theorem unsignedProduct_eq (a b : Word) : unsignedProduct a b = BitVec.ofInt 64 (a.toNat * b.toNat : Int) := by
  rw [unsignedProduct, ← BitVec.ofInt_natCast]
  push_cast
  rfl

/-- Where a product of two words lies. -/
theorem toNat_mul_lt (a b : Word) : a.toNat * b.toNat < 2 ^ 64 :=
  (Nat.mul_lt_mul'' a.isLt b.isLt).trans_eq (by norm_num)

theorem toInt_mul_bounds (a b : Word) : -2 ^ 62 ≤ a.toInt * b.toInt ∧ a.toInt * b.toInt ≤ 2 ^ 62 := by
  have ha := BitVec.le_toInt a
  have ha' := BitVec.toInt_lt (x := a)
  have hb := BitVec.le_toInt b
  have hb' := BitVec.toInt_lt (x := b)
  have habs : |a.toInt * b.toInt| ≤ 2 ^ 31 * 2 ^ 31 := by
    rw [abs_mul]
    exact mul_le_mul (abs_le.mpr ⟨by simpa using ha, by omega⟩) (abs_le.mpr ⟨by simpa using hb, by omega⟩) (abs_nonneg _) (by norm_num)
  have := abs_le.mp habs
  constructor <;> omega

/-- The unsigned 32-bit overflow test. -/
theorem highWord_unsigned_ne_zero (a b : Word) : highWord (unsignedProduct a b) ≠ 0 ↔ 2 ^ 32 ≤ a.toNat * b.toNat := by
  have hlt := toNat_mul_lt a b
  rw [unsignedProduct, highWord, Ne, ← BitVec.toNat_inj, BitVec.extractLsb'_toNat, BitVec.toNat_ofNat, Nat.shiftRight_eq_div_pow]
  simp only [BitVec.ofNat_eq_ofNat, BitVec.toNat_ofNat]
  omega

/-- The signed 32-bit overflow test: the high word is not the sign of the low one. -/
theorem highWord_signed_ne_sign (n : Int) (hn : -2 ^ 62 ≤ n ∧ n ≤ 2 ^ 62) :
    highWord (BitVec.ofInt 64 n) ≠ (lowWord (BitVec.ofInt 64 n)).sshiftRight 31 ↔ ¬ (-2 ^ 31 ≤ n ∧ n < 2 ^ 31) := by
  rw [Ne, ← BitVec.toInt_inj, highWord_ofInt, lowWord_ofInt, BitVec.toInt_sshiftRight, BitVec.toInt_ofInt, BitVec.toInt_ofInt,
    Int.shiftRight_eq_div_pow]
  simp only [Int.bmod]
  omega

/-- A multiply and its cc form write the words of the exact product `n`. -/
theorem writeProduct_spec (s : State) (rd : Reg) (n : Int) :
    (∃ t, writeProduct s rd (BitVec.ofInt 64 n) = .next t ∧ sequential s t ∧ writesReg s t s.cwpRead rd (BitVec.ofInt 32 n)
      ∧ t.y = yWith s (BitVec.ofInt 32 (n / 2 ^ 32)) ∧ t.psr = s.psr ∧ integerFrame s t)
    ∧ ∃ t, writeProductCc s rd (BitVec.ofInt 64 n) = .next t ∧ sequential s t
      ∧ writesReg s t s.cwpRead rd (BitVec.ofInt 32 n) ∧ t.y = yWith s (BitVec.ofInt 32 (n / 2 ^ 32))
      ∧ t.psr = psrWithIcc s (logicIcc (BitVec.ofInt 32 n)) ∧ integerFrame s t := by
  obtain ⟨t, ht, hseq, hreg, hpsr, hy, hframe⟩ := finish_setY_spec s rd (BitVec.ofInt 32 n) (BitVec.ofInt 32 (n / 2 ^ 32))
  obtain ⟨t', ht', hseq', hreg', hpsr', hy', hframe'⟩ := finish_setIcc_setY_spec s rd (BitVec.ofInt 32 n)
    (logicIcc (BitVec.ofInt 32 n)) (BitVec.ofInt 32 (n / 2 ^ 32))
  rw [writeProduct, writeProductCc, lowWord_ofInt, highWord_ofInt]
  exact ⟨⟨t, ht, hseq, hreg, hy, hpsr, hframe⟩, ⟨t', ht', hseq', hreg', hy', hpsr', hframe'⟩⟩

theorem exec_umul_eq (rd rs1 : Reg) (o : RegOrImm) (s : State) :
    exec (.umul rd rs1 o) s = writeProduct s rd (BitVec.ofInt 64 ((s.r rs1).toNat * (s.op2 o).toNat)) :=
  congrArg (writeProduct s rd) (unsignedProduct_eq _ _)

theorem exec_umulcc_eq (rd rs1 : Reg) (o : RegOrImm) (s : State) :
    exec (.umulcc rd rs1 o) s = writeProductCc s rd (BitVec.ofInt 64 ((s.r rs1).toNat * (s.op2 o).toNat)) :=
  congrArg (writeProductCc s rd) (unsignedProduct_eq _ _)

/-- Settles O19: the words of a product are those of the exact integer. -/
theorem multiplyResults : Obligations.MultiplyResults := by
  unfold Obligations.MultiplyResults
  refine ⟨fun s rd rs1 o => ?_, highWord_unsigned_ne_zero, fun a b => highWord_signed_ne_sign _ (toInt_mul_bounds a b)⟩
  simp only [List.forall_mem_cons]
  rw [exec_umul_eq, exec_umulcc_eq]
  exact ⟨writeProduct_spec s rd _, writeProduct_spec s rd _, List.forall_mem_nil _⟩

/-! ### Division -/

theorem divide_nonzero (s : State) (rd : Reg) {d : Word} (hd : d ≠ 0) (q : Quotient) (cc : Bool) : divide s rd d q cc =
    finish ((if cc then (s.setR rd q.q).setIcc (divIcc q.q q.ovf) else s.setR rd q.q).setY (Config.freeYDivide s.freeCount)) := by
  have hd' : (d == 0) = false := by simpa using hd
  rw [divide, hd', raiseIf_false]
  cases cc <;> simp [State.divideY, Config.divY]

theorem divide_zero (s : State) (rd : Reg) (q : Quotient) (cc : Bool) : divide s rd 0 q cc = raise .divisionByZero s := rfl

/-- A divide by a nonzero divisor and its cc form. -/
theorem divide_spec (s : State) (rd : Reg) {d : Word} (hd : d ≠ 0) (q : Quotient) :
    (∃ t, divide s rd d q false = .next t ∧ sequential s t ∧ writesReg s t s.cwpRead rd q.q ∧ t.psr = s.psr ∧ integerFrame s t)
    ∧ ∃ t, divide s rd d q true = .next t ∧ sequential s t ∧ writesReg s t s.cwpRead rd q.q
      ∧ t.psr = psrWithIcc s (divIcc q.q q.ovf) ∧ integerFrame s t := by
  obtain ⟨t, ht, hseq, hreg, hpsr, -, hframe⟩ := finish_setY_spec s rd q.q (Config.freeYDivide s.freeCount)
  obtain ⟨t', ht', hseq', hreg', hpsr', -, hframe'⟩ := finish_setIcc_setY_spec s rd q.q (divIcc q.q q.ovf)
    (Config.freeYDivide s.freeCount)
  rw [divide_nonzero s rd hd, divide_nonzero s rd hd]
  exact ⟨⟨t, ht, hseq, hreg, hpsr, hframe⟩, ⟨t', ht', hseq', hreg', hpsr', hframe'⟩⟩

/-- Settles O20: the divisor passes the test for 0. -/
theorem divideResults : Obligations.DivideResults := by
  unfold Obligations.DivideResults
  intro s rd rs1 o hd
  simp only [List.forall_mem_cons]
  exact ⟨divide_spec s rd hd _, divide_spec s rd hd _, List.forall_mem_nil _⟩

/-- Settles O21: the divisor fails the test for 0. -/
theorem divisionByZeroTraps : Obligations.DivisionByZeroTraps := by
  unfold Obligations.DivisionByZeroTraps
  intro s rd rs1 o hd
  have hraise (q : Quotient) (cc : Bool) : traps (divide s rd (s.op2 o) q cc) .divisionByZero s :=
    traps_of_eq (by rw [hd, divide_zero])
  simp only [List.forall_mem_cons]
  exact ⟨hraise _ _, hraise _ _, hraise _ _, hraise _ _, List.forall_mem_nil _⟩

theorem dividend_toNat (y a : Word) : (y ++ a : DWord).toNat = y.toNat * 2 ^ 32 + a.toNat := by
  rw [BitVec.toNat_append, ← Nat.shiftLeft_add_eq_or_of_lt a.isLt, Nat.shiftLeft_eq]

theorem dividend_toInt (y a : Word) : (y ++ a : DWord).toInt = y.toInt * 2 ^ 32 + a.toNat := by
  have ha := a.isLt
  have hy := y.isLt
  have h := dividend_toNat y a
  rw [BitVec.toInt_eq_toNat_cond, BitVec.toInt_eq_toNat_cond, h]
  split <;> split <;> push_cast <;> omega

/-- The unsigned quotient: overflow exactly when it does not fit (R363). -/
theorem unsignedQuotient_spec (y a d : Word) (hd : d ≠ 0) :
    let u := unsignedQuotient y a d
    (u.ovf = true ↔ d.toNat ≤ y.toNat) ∧ (u.ovf = true → u.q = 0xFFFFFFFF#32)
    ∧ (u.ovf = false → u.q.toNat * d.toNat + u.rem.toNat = y.toNat * 2 ^ 32 + a.toNat ∧ u.rem.toNat < d.toNat) := by
  have ha := a.isLt
  have hdlt := d.isLt
  have hpos : 0 < d.toNat := Nat.pos_of_ne_zero (fun h => hd (BitVec.eq_of_toNat_eq h))
  have hq : 2 ^ 32 ≤ (y.toNat * 2 ^ 32 + a.toNat) / d.toNat ↔ d.toNat ≤ y.toNat := by
    rw [Nat.le_div_iff_mul_le hpos]; omega
  have hrem := Nat.mod_lt (y.toNat * 2 ^ 32 + a.toNat) hpos
  have hdiv := Nat.div_add_mod' (y.toNat * 2 ^ 32 + a.toNat) d.toNat
  simp only [unsignedQuotient, dividend_toNat]
  generalize (y.toNat * 2 ^ 32 + a.toNat) / d.toNat = q at *
  generalize (y.toNat * 2 ^ 32 + a.toNat) % d.toNat = r at *
  split
  · next h => exact ⟨by simp; omega, fun _ => rfl, nofun⟩
  · next h =>
    have hq32 : q % 2 ^ 32 = q := by omega
    have hr32 : r % 2 ^ 32 = r := by omega
    exact ⟨by simp; omega, nofun, fun _ => by simpa only [BitVec.toNat_ofNat, hq32, hr32] using ⟨hdiv, hrem⟩⟩

theorem toInt_ofInt_of_mem {n : Int} (h1 : -2 ^ 31 ≤ n) (h2 : n < 2 ^ 31) : (BitVec.ofInt 32 n).toInt = n := by
  rw [BitVec.toInt_ofInt, Int.bmod]
  omega

/-- Under method A the signed quotient is saturated by the range of the truncated quotient alone (R363, D21). -/
theorem signedQuotient_eq (y a d : Word) : signedQuotient y a d =
    let q := (y.toInt * 2 ^ 32 + a.toNat).tdiv d.toInt
    if 0x7FFFFFFF < q then { q := 0x7FFFFFFF, ovf := true, rem := 0 }
    else if q < -0x80000000 then { q := 0x80000000, ovf := true, rem := 0 }
    else { q := BitVec.ofInt 32 q, ovf := false, rem := BitVec.ofInt 32 ((y.toInt * 2 ^ 32 + a.toNat).tmod d.toInt) } := by
  simp [signedQuotient, dividend_toInt, Config.divNegOvf]

/-- The signed quotient: truncated, with the remainder's sign that of the dividend (R363). -/
theorem signedQuotient_spec (y a d : Word) (hd : d ≠ 0) :
    let m : Int := y.toInt * 2 ^ 32 + a.toNat
    let v := signedQuotient y a d
    (v.ovf = true ↔ m.tdiv d.toInt < -2 ^ 31 ∨ 2 ^ 31 ≤ m.tdiv d.toInt)
    ∧ (v.ovf = true → v.q = if 0 ≤ m.tdiv d.toInt then 0x7FFFFFFF#32 else 0x80000000#32)
    ∧ (v.ovf = false → v.q.toInt * d.toInt + v.rem.toInt = m ∧ v.rem.toInt.natAbs < d.toInt.natAbs
        ∧ (v.rem.toInt ≠ 0 → (0 < v.rem.toInt ↔ 0 < m))) := by
  intro m v
  have hd0 : d.toInt ≠ 0 := fun h => hd (BitVec.eq_of_toInt_eq h)
  have hv : v = _ := signedQuotient_eq y a d
  have hdiv := Int.tdiv_mul_add_tmod m d.toInt
  have hrem : (m.tmod d.toInt).natAbs < d.toInt.natAbs := by
    rw [Int.natAbs_tmod]; exact Nat.mod_lt _ (Int.natAbs_pos.mpr hd0)
  have hsign : m.tmod d.toInt ≠ 0 → (0 < m.tmod d.toInt ↔ 0 < m) := by
    intro h0
    have hm0 : m ≠ 0 := fun h => h0 (by rw [h, Int.zero_tmod])
    rcases le_total 0 m with hm | hm
    · have := Int.tmod_nonneg d.toInt hm
      omega
    · have := Int.tmod_nonneg d.toInt (neg_nonneg.mpr hm)
      rw [Int.neg_tmod] at this
      omega
  have hd31 := BitVec.le_toInt d
  have hd31' := BitVec.toInt_lt (x := d)
  rw [hv]
  generalize m.tdiv d.toInt = q at *
  generalize m.tmod d.toInt = r at *
  have hr := toInt_ofInt_of_mem (n := r) (by omega) (by omega)
  dsimp only
  split
  · next h => exact ⟨by simp; omega, fun _ => (if_pos (by omega)).symm, nofun⟩
  · next h =>
    split
    · next h' => exact ⟨by simp; omega, fun _ => (if_neg (by omega)).symm, nofun⟩
    · next h' =>
      have hq := toInt_ofInt_of_mem (n := q) (by omega) (by omega)
      exact ⟨by simp; omega, nofun, fun _ => by rw [hq, hr]; exact ⟨hdiv, hrem, hsign⟩⟩

/-- Settles O22. -/
theorem quotientArithmetic : Obligations.QuotientArithmetic := by
  unfold Obligations.QuotientArithmetic
  intro y a d hd n m u v
  obtain ⟨hovf, hsat, hexact⟩ := unsignedQuotient_spec y a d hd
  exact ⟨hovf, hsat, hexact, signedQuotient_spec y a d hd⟩

/-! ### SAVE and RESTORE -/

theorem wimMask_getLsbD {k : Nat} (h : k < Config.nwindows) : wimMask.getLsbD k = true := by
  have hall : ∀ k < 8, (BitVec.ofNat 32 (2 ^ 8 - 1)).getLsbD k = true := by decide
  exact hall k h

/-- The WIM bit of an implemented window, no WRWIM window being open. -/
theorem wimRead_getLsbD {s : State} (h : s.haz.wim.count = 0) {k : Nat} (hk : k < Config.nwindows) :
    s.wimRead.getLsbD k = s.wim.getLsbD k := by
  rw [wimRead_settled h, BitVec.getLsbD_and, wimMask_getLsbD hk, Bool.true_and]

theorem changeWindow_invalid {s : State} (h : s.haz.wim.count = 0) {w : Nat} (hw : w < Config.nwindows)
    (hi : s.wim.getLsbD w = true) (x : Trap) (rd : Reg) (v : Word) : changeWindow s w x rd v = raise x s := by
  rw [changeWindow, wimRead_getLsbD h hw, hi, raiseIf_true]

/-- A change to a valid window: the sum goes through the new window (R400, R401). -/
theorem changeWindow_valid {s : State} (h0 : s.haz.psr.count = 0) (h : s.haz.wim.count = 0) {w : Nat} (hw : w < Config.nwindows)
    (hi : s.wim.getLsbD w = false) (x : Trap) (rd : Reg) (v : Word) :
    ∃ t, changeWindow s w x rd v = .next t ∧ sequential s t ∧ t.window = w ∧ t.psr = { s.psr with cwp := t.psr.cwp }
      ∧ writesReg s t w rd v ∧ t.y = s.y ∧ integerFrame s t := by
  rw [changeWindow, wimRead_getLsbD h hw, hi, raiseIf_false]
  refine ⟨_, rfl, sequential_finish _ (by simp), ?_, by simp, writesReg_congr (writesReg_setRw s w rd v) (by simp) (by simp),
    by simp, integerFrame_finish (by simp) (by simp) (by simp) (by simp) (by simp) (by simp) (by simp) (by simp) (by simp)
      (by simp) (by simp)⟩
  simp [State.window, written_settled _ _ h0, Invariant.toNat_ofNat_window hw]

theorem exec_save_settled {s : State} (h0 : s.haz.psr.count = 0) (rd rs1 : Reg) (o : RegOrImm) : exec (.save rd rs1 o) s =
    changeWindow s (windowBelow s.window) .windowOverflow rd (s.rw s.window rs1 + s.op2 o) := by
  rw [← cwpRead_settled h0]; rfl

theorem exec_restore_settled {s : State} (h0 : s.haz.psr.count = 0) (rd rs1 : Reg) (o : RegOrImm) :
    exec (.restore rd rs1 o) s =
      changeWindow s (windowAbove s.window) .windowUnderflow rd (s.rw s.window rs1 + s.op2 o) := by
  rw [← cwpRead_settled h0]; rfl

/-- Settles O23: by the WIM test of the new window. -/
theorem saveRestoreChangeWindow : Obligations.SaveRestoreChangeWindow := by
  unfold Obligations.SaveRestoreChangeWindow
  intro s rd rs1 o h0 hwim _
  simp only [List.forall_mem_cons]
  rw [exec_save_settled h0, exec_restore_settled h0]
  exact ⟨fun hi => changeWindow_valid h0 hwim (Invariant.windowBelow_lt _) hi _ rd _,
    fun hi => changeWindow_valid h0 hwim (Invariant.windowAbove_lt _) hi _ rd _, List.forall_mem_nil _⟩

/-- Settles O24: by the WIM test of the new window. -/
theorem saveRestoreTrapOnInvalidWindow : Obligations.SaveRestoreTrapOnInvalidWindow := by
  unfold Obligations.SaveRestoreTrapOnInvalidWindow
  intro s rd rs1 o h0 hwim _
  rw [exec_save_settled h0, exec_restore_settled h0]
  refine ⟨fun hi => ?_, fun hi => ?_⟩
  · exact traps_of_eq (changeWindow_invalid hwim (Invariant.windowBelow_lt _) hi _ _ _)
  · exact traps_of_eq (changeWindow_invalid hwim (Invariant.windowAbove_lt _) hi _ _ _)

end Sys2Proof.Proofs.Integer

namespace Sys2Proof.Proofs.StateRegisters
open Sys2Proof.Machine Sys2Proof.Proofs.Step

/-! ### Reading the state registers -/

/-- icc within the PSR, as its four bits one by one. -/
theorem append_icc_bits (x : BitVec 8) (i : Icc) : (x ++ i.bits : BitVec 12) =
    x ++ BitVec.ofBool i.n ++ BitVec.ofBool i.z ++ BitVec.ofBool i.v ++ BitVec.ofBool i.c := by
  apply BitVec.eq_of_toNat_eq
  simp only [Icc.bits, BitVec.toNat_append, Nat.shiftLeft_or_distrib, ← Nat.shiftLeft_add, Nat.or_assoc]

theorem psrWord_settled {s : State} (h : s.haz.psr.count = 0) : s.psrWord =
    Config.psrImpl ++ Config.psrVer ++ BitVec.ofBool s.psr.icc.n ++ BitVec.ofBool s.psr.icc.z ++ BitVec.ofBool s.psr.icc.v
      ++ BitVec.ofBool s.psr.icc.c ++ 0#6 ++ 0#1 ++ BitVec.ofBool s.psr.ef ++ s.psr.pil ++ BitVec.ofBool s.psr.s
      ++ BitVec.ofBool s.psr.ps ++ BitVec.ofBool s.psr.et ++ s.psr.cwp := by
  have hec : BitVec.ofBool s.ecRead = 0#1 := by simp [State.ecRead, Config.hasCp]
  have hcwp : BitVec.ofNat 5 s.cwpRead = s.psr.cwp := by rw [cwpRead_settled h]; simp
  rw [State.psrWord, append_icc_bits, hec, hcwp, iccRead_settled h, efRead_settled h, pilRead_settled h, sRead_settled h,
    psRead_settled h, etRead_settled h]

/-- Settles O48: each read writes r[rd] with what the register reads as. -/
theorem readStateRegisterResults : Obligations.ReadStateRegisterResults := by
  unfold Obligations.ReadStateRegisterResults
  intro s rd completes
  refine ⟨writeReg_spec s rd _, fun hs => ?_, fun h => ⟨yRead_settled h.y, wimRead_settled h.wim, ?_, psrWord_settled h.psr⟩⟩
  · have supervisor (v : Word) := (needSupervisor_ok hs (k := writeReg s rd v)).symm ▸ writeReg_spec s rd v
    exact ⟨supervisor _, supervisor _, supervisor _⟩
  · rw [State.tbrWord, tbaRead_settled h.tbr]

/-! ### Ancillary state registers -/

theorem rdasr_reserved (s : State) (rd : Reg) {n : Reg} (h : n.toNat < 15) :
    execRdasr rd n s = writeReg s rd (Config.freeAsr s.freeCount) := by rw [execRdasr, if_pos h]

theorem rdasr_unimplemented (s : State) (rd : Reg) {n : Reg} (h : 16 ≤ n.toNat) :
    execRdasr rd n s = raise .illegalInstruction s := by
  have h15 : n ≠ 15 := by rintro rfl; exact absurd h (by decide)
  rw [execRdasr, if_neg (by omega), if_neg h15]
  rfl

theorem wrasr_reserved (s : State) {n : Reg} (rs1 : Reg) (o : RegOrImm) (h : n.toNat < 16) :
    execWrasr n rs1 o s = .refused .reservedAsr := by rw [execWrasr, if_pos h]

theorem wrasr_unimplemented (s : State) {n : Reg} (rs1 : Reg) (o : RegOrImm) (h : 16 ≤ n.toNat) :
    execWrasr n rs1 o s = raise .illegalInstruction s := by
  rw [execWrasr, if_neg (by omega)]
  rfl

/-- Settles O50: by the register's number. -/
theorem ancillaryRegisterAccess : Obligations.AncillaryRegisterAccess := by
  unfold Obligations.AncillaryRegisterAccess
  refine fun s rd rs1 n o => ⟨fun _ h => ?_, fun _ => rfl, fun _ h => wrasr_reserved s rs1 o h, fun h => ⟨?_, ?_⟩⟩
  · obtain ⟨t, ht⟩ := writeReg_spec s rd (Config.freeAsr s.freeCount)
    exact ⟨t, _, (rdasr_reserved s rd h).trans ht.1, ht.2⟩
  · exact traps_of_eq (rdasr_unimplemented s rd h)
  · exact traps_of_eq (wrasr_unimplemented s rs1 o h)

/-! ### Writing the state registers -/

/-- A write of a state register completes in sequence and leaves all but the state registers and the hazards. -/
def WriteFrame (s t : State) : Prop :=
  sequential s t ∧ regsKept s t ∧ memKept s t ∧ fpuKept s t ∧ t.errorMode = s.errorMode ∧ t.flushPending = flushAge s.flushPending
    ∧ t.memFaults = s.memFaults ∧ t.irl = s.irl ∧ t.freeCount = s.freeCount

theorem writeY_frame (s : State) (v : Word) : WriteFrame s (s.writeY v) :=
  ⟨⟨rfl, rfl⟩, regsKept_congr rfl rfl, memKept_of_eq rfl, fpuKept_of_eq rfl rfl, rfl, rfl, rfl, rfl, rfl⟩
theorem writePsr_frame (s : State) (v : Word) : WriteFrame s (s.writePsr v) :=
  ⟨⟨rfl, rfl⟩, regsKept_congr rfl rfl, memKept_of_eq rfl, fpuKept_of_eq rfl rfl, rfl, rfl, rfl, rfl, rfl⟩
theorem writeWim_frame (s : State) (v : Word) : WriteFrame s (s.writeWim v) :=
  ⟨⟨rfl, rfl⟩, regsKept_congr rfl rfl, memKept_of_eq rfl, fpuKept_of_eq rfl rfl, rfl, rfl, rfl, rfl, rfl⟩
theorem writeTbr_frame (s : State) (v : Word) : WriteFrame s (s.writeTbr v) :=
  ⟨⟨rfl, rfl⟩, regsKept_congr rfl rfl, memKept_of_eq rfl, fpuKept_of_eq rfl rfl, rfl, rfl, rfl, rfl, rfl⟩

/-- The fields of the PSR a word holds (R40, R513): EC does not exist. -/
theorem psrOfWord_eq (v : Word) : psrOfWord v =
    { icc := ⟨v.getLsbD 23, v.getLsbD 22, v.getLsbD 21, v.getLsbD 20⟩, ec := false, ef := v.getLsbD 12, pil := v.extractLsb' 8 4,
      s := v.getLsbD 7, ps := v.getLsbD 6, et := v.getLsbD 5, cwp := v.extractLsb' 0 5 } := by
  simp [psrOfWord, iccOfBits, Config.hasCp, Config.hasFpu]

theorem pilQuirksAfter_eq (aged : List PilQuirk) (old new : Psr) : pilQuirksAfter aged old new =
    (if old.pil ≠ new.pil ∧ old.et = false ∧ new.et = true then [⟨3, old.pil⟩] else []) ++ aged := by
  unfold pilQuirksAfter
  split <;> rfl

theorem cwpField_toNat (v : Word) : (v.extractLsb' 0 5 : BitVec 5).toNat = v.toNat % 32 := by
  simp [BitVec.extractLsb'_toNat]

theorem execWrpsr_ok {s : State} (hs : s.sRead = true) (rs1 : Reg) (o : RegOrImm)
    (hv : (s.r rs1 ^^^ s.op2 o).toNat % 32 < Config.nwindows) :
    execWrpsr rs1 o s = .next (s.writePsr (s.r rs1 ^^^ s.op2 o)) := by
  rw [execWrpsr, needSupervisor_ok hs, cwpField_toNat, decide_eq_false (by omega), raiseIf_false, reserved_ignored]

theorem execWrpsr_noWindow {s : State} (hs : s.sRead = true) (rs1 : Reg) (o : RegOrImm)
    (hv : Config.nwindows ≤ (s.r rs1 ^^^ s.op2 o).toNat % 32) : execWrpsr rs1 o s = raise .illegalInstruction s := by
  rw [execWrpsr, needSupervisor_ok hs, cwpField_toNat, decide_eq_true hv, raiseIf_true]

theorem execWrtbr_ok {s : State} (hs : s.sRead = true) (rs1 : Reg) (o : RegOrImm) :
    execWrtbr rs1 o s = .next (s.writeTbr (s.r rs1 ^^^ s.op2 o)) := by
  rw [execWrtbr, needSupervisor_ok hs, reserved_ignored]

/-- Settles O49: each write's fields, its window by `keptOld`, and its frame. -/
theorem writeStateRegisterResults : Obligations.WriteStateRegisterResults := by
  unfold Obligations.WriteStateRegisterResults
  intro s rs1 o v rest
  refine ⟨⟨s.writeY v, rfl, writeY_frame s v, rfl, rfl, rfl, rfl, rfl, rfl, keepsOld_keptOld ..⟩, fun hs hv => ?_, fun hs => ⟨?_, ?_⟩⟩
  · exact ⟨s.writePsr v, execWrpsr_ok hs rs1 o hv, writePsr_frame s v, rfl, rfl, rfl, psrOfWord_eq v, rfl, rfl, keepsOld_keptOld ..,
      keepsOld_keptOld .., keepsOld_keptOld .., keepsOld_keptOld .., keepsOld_keptOld .., keepsOld_keptOld .., keepsOld_keptOld ..,
      keepsOld_keptOld .., pilQuirksAfter_eq ..⟩
  · exact ⟨s.writeWim v, needSupervisor_ok hs, writeWim_frame s v, rfl, rfl, rfl, rfl, rfl, rfl, keepsOld_keptOld ..⟩
  · exact ⟨s.writeTbr v, execWrtbr_ok hs rs1 o, writeTbr_frame s v, rfl, rfl, rfl, rfl, rfl, rfl, keepsOld_keptOld ..⟩

end Sys2Proof.Proofs.StateRegisters

end

section
/-! Control transfer and traps: the branches by one lemma over their test, CALL, JMPL, RETT, Ticc; what taking and raising a trap
does; and the enables every instruction of a class tests first. -/

set_option Elab.async false

namespace Sys2Proof.Proofs.Branches
open Sys2Proof.Machine Sys2Proof.Proofs.Step

/-! ### Targets -/

theorem disp22_toInt (d : BitVec 22) : (d ++ 0b00#2).toInt = 4 * d.toInt := by
  have hd := d.isLt
  have h : (d ++ 0b00#2).toNat = d.toNat * 4 := by
    rw [BitVec.toNat_append, Nat.shiftLeft_eq]
    simp
  rw [BitVec.toInt_eq_toNat_cond, BitVec.toInt_eq_toNat_cond, h]
  split <;> split <;> push_cast <;> omega

theorem branchTarget_eq (pc : Word) (d : BitVec 22) : branchTarget pc d = pc + BitVec.ofInt 32 (4 * d.toInt) := by
  rw [branchTarget, BitVec.signExtend, disp22_toInt]

theorem callTarget_eq (pc : Word) (d : BitVec 30) : callTarget pc d = pc + BitVec.ofNat 32 (4 * d.toNat) := by
  have h : (d ++ 0b00#2 : Word) = BitVec.ofNat 32 (4 * d.toNat) := by
    have hd := d.isLt
    apply BitVec.eq_of_toNat_eq
    rw [BitVec.toNat_ofNat, BitVec.toNat_append, Nat.shiftLeft_eq]
    simp
    omega
  rw [callTarget, h]

/-! ### A branch -/

theorem add_four_add_four (a : Word) : a + 4 + 4 = a + 8 := by rw [BitVec.add_assoc]; rfl

/-- The table of R34. -/
theorem branchTo_case (s u : State) (hnpc : u.npc = s.npc) (taken unconditional a : Bool) (target : Word) :
    branchCase s (u.branchTo taken unconditional a target) taken unconditional a target := by
  unfold branchCase
  rw [← hnpc]
  cases taken
  · cases a
    · rfl
    · cases unconditional <;> exact Prod.ext rfl (add_four_add_four _)
  · cases unconditional
    · cases a <;> rfl
    · cases a <;> rfl

/-- A branch after its aging: the frame of every branch. -/
theorem branchFrame_of_eq {s u : State} {mark : Bool} (hg : u.globals = s.globals) (hw : u.windows = s.windows)
    (hpsr : u.psr = s.psr) (hy : u.y = s.y) (hm : u.mem = s.mem) (hf : u.f = s.f) (hfsr : u.fsr = s.fsr)
    (hsys : systemKept s u) (hhaz : u.haz = { s.haz.age with prevCondBranch := mark })
    (hflush : u.flushPending = flushAge s.flushPending) : branchFrame s u mark :=
  ⟨regsKept_congr hg hw, hpsr, hy, memKept_of_eq hm, fpuKept_of_eq hf hfsr, hsys, hhaz, hflush⟩

/-- The mark of R716: a conditional branch that did not annul. -/
theorem mark_eq (taken unconditional a : Bool) :
    (!unconditional && !annuls taken unconditional a) = (!unconditional && (taken || !a)) := by
  revert taken unconditional a; decide

/-- What every branch does, by its test (R410, R430). -/
theorem branch_spec (s : State) (taken unconditional a : Bool) (d : BitVec 22) :
    (s.haz.prevCondBranch = false → ∃ t, branch s taken unconditional a d = .next t
      ∧ branchCase s t taken unconditional a (s.pc + BitVec.ofInt 32 (4 * d.toInt))
      ∧ branchFrame s t (!unconditional && (taken || !a)))
    ∧ (s.haz.prevCondBranch = true → ∃ t, branch s taken unconditional a d = .next t ∧ wordAligned t.pc ∧ wordAligned t.npc
        ∧ branchFrame s t (!unconditional)) := by
  refine ⟨fun h => ?_, fun h => ?_⟩
  · rw [branch, h, mark_eq, branchTarget_eq]
    exact ⟨_, rfl, branchTo_case s s.retire rfl taken unconditional a _,
      branchFrame_of_eq (by simp) (by simp) (by simp) (by simp) (by simp) (by simp) (by simp) (by simp [systemKept])
        (by simp [State.markBranch]) (by simp)⟩
  · rw [branch, h]
    exact ⟨_, rfl, Invariant.wordAligned_append_zeros _, Invariant.wordAligned_append_zeros _,
      branchFrame_of_eq rfl rfl rfl rfl rfl rfl rfl ⟨rfl, rfl, rfl, rfl, rfl, rfl⟩ rfl rfl⟩

/-- Settles O25: each Bicc is `branch` with its test. -/
theorem integerBranches : Obligations.IntegerBranches := by
  unfold Obligations.IntegerBranches
  intro s a d c
  have h (taken unconditional : Bool) := branch_spec s taken unconditional a d
  simp only [List.forall_mem_cons]
  exact ⟨h _ _, h _ _, h _ _, h _ _, h _ _, h _ _, h _ _, h _ _, h _ _, h _ _, h _ _, h _ _, h _ _, h _ _, h _ _, h _ _,
    List.forall_mem_nil _⟩

/-- What every FBfcc does, by the values of fcc it tests for (R430, R713). -/
theorem fpBranch_spec {s : State} (hf : s.efRead = true) (test : Bool) (values : List Nat)
    (htest : test = decide (s.fsr.fcc.toNat ∈ values)) (unconditional a : Bool) (d : BitVec 22) :
    (s.haz.prevCondBranch = false → ∃ t taken, fpBranch s test unconditional a d = .next t
      ∧ branchCase s t taken unconditional a (s.pc + BitVec.ofInt 32 (4 * d.toInt))
      ∧ branchFrame s t (!unconditional && (taken || !a))
      ∧ (s.haz.ldfsrCount = 0 → s.haz.fpop2Prev = false → taken = decide (s.fsr.fcc.toNat ∈ values)))
    ∧ (s.haz.prevCondBranch = true → ∃ t, fpBranch s test unconditional a d = .next t ∧ wordAligned t.pc ∧ wordAligned t.npc
        ∧ branchFrame s t (!unconditional)) := by
  rw [fpBranch, needFpu_ok hf]
  obtain ⟨hcase, hcouple⟩ := branch_spec s
    (if 0 < s.haz.ldfsrCount ∨ s.haz.fpop2Prev = true then Config.freeFbfccTaken s.freeCount else test) unconditional a d
  refine ⟨fun h => ?_, hcouple⟩
  obtain ⟨t, ht, hpc, hframe⟩ := hcase h
  exact ⟨t, _, ht, hpc, hframe, fun h0 h1 => by rw [if_neg (by simp [h0, h1]), htest]⟩

theorem ccIn_eq (cc : BitVec 2) (values : List (BitVec 2)) :
    ccIn cc values = decide (cc.toNat ∈ values.map BitVec.toNat) := by
  rw [ccIn, List.contains_eq_mem, Bool.eq_iff_iff, decide_eq_true_iff, decide_eq_true_iff,
    List.mem_map_of_injective (fun _ _ => BitVec.eq_of_toNat_eq)]

/-- Settles O26: each FBfcc is `fpBranch` with its values of fcc. -/
theorem floatingPointBranches : Obligations.FloatingPointBranches := by
  unfold Obligations.FloatingPointBranches
  intro s a d hf
  have h (values : List (BitVec 2)) := fpBranch_spec hf _ _ (ccIn_eq s.fsr.fcc values) false a d
  have halways : true = decide (s.fsr.fcc.toNat ∈ [0, 1, 2, 3]) := by
    generalize s.fsr.fcc = fcc; revert fcc; decide
  simp only [List.forall_mem_cons]
  exact ⟨fpBranch_spec hf _ _ halways true a d, fpBranch_spec hf _ _ (by simp) true a d, h [3], h [2], h [2, 3], h [1], h [1, 3],
    h [1, 2], h [1, 2, 3], h [0], h [0, 3], h [0, 2], h [0, 2, 3], h [0, 1], h [0, 1, 3], h [0, 1, 2], List.forall_mem_nil _⟩

end Sys2Proof.Proofs.Branches

namespace Sys2Proof.Proofs.Transfers
open Sys2Proof.Machine Sys2Proof.Proofs.Step

/-! ### Ticc, CALL and JMPL -/

theorem trapType_trapInstruction (n : BitVec 7) : trapType (.trapInstruction n) = BitVec.ofNat 8 (128 + n.toNat) := by
  change (0b1#1 ++ n : BitVec 8) = _
  revert n; decide

/-- What every Ticc does, by its test (R473). -/
theorem ticc_spec (s : State) (test : Bool) (rs1 : Reg) (o : TrapOperand) {n : Nat} (hn : (s.trapNumber rs1 o).toNat = n) :
    (test = true → s.trapEt = true → ticc s test rs1 o = .next (s.trapEntry (BitVec.ofNat 8 (128 + n))))
    ∧ (test = true → s.trapEt = false → ticc s test rs1 o = .next s.enterErrorMode)
    ∧ (test = false → ∃ t, ticc s test rs1 o = .next t ∧ sequential s t ∧ regsKept s t ∧ t.psr = s.psr ∧ t.y = s.y
        ∧ integerFrame s t) := by
  obtain ⟨henabled, hdisabled⟩ := raise_cases (.trapInstruction (s.trapNumber rs1 o)) s
  rw [trapType_trapInstruction, hn] at henabled
  refine ⟨?_, ?_, ?_⟩
  · rintro rfl; exact henabled
  · rintro rfl; exact hdisabled
  · rintro rfl; exact finish_spec s

theorem trapNumber_toNat_reg (s : State) (rs1 rs2 : Reg) :
    (s.trapNumber rs1 (.reg rs2)).toNat = ((s.r rs1).toNat + (s.r rs2).toNat) % 128 := by
  change ((s.r rs1 + s.r rs2).extractLsb' 0 7).toNat = _
  rw [BitVec.extractLsb'_toNat, BitVec.toNat_add, Nat.shiftRight_zero]
  omega

theorem trapNumber_toNat_imm (s : State) (rs1 : Reg) (imm7 : BitVec 7) :
    (s.trapNumber rs1 (.imm imm7)).toNat = ((s.r rs1).toNat + imm7.toNat) % 128 := by
  change ((s.r rs1 + imm7.zeroExtend 32).extractLsb' 0 7).toNat = _
  rw [BitVec.extractLsb'_toNat, BitVec.toNat_add, Nat.shiftRight_zero, BitVec.toNat_setWidth]
  omega

/-- Settles O30: each Ticc is `ticc` with its test. -/
theorem trapOnConditionCodes : Obligations.TrapOnConditionCodes := by
  unfold Obligations.TrapOnConditionCodes
  intro s rs1 rs2 imm7
  have hall (q : TrapOperand × Nat) (hn : (s.trapNumber rs1 q.1).toNat = q.2) (test : Bool) := ticc_spec s test rs1 q.1 hn
  refine List.forall_mem_cons.mpr ⟨?_, List.forall_mem_cons.mpr ⟨?_, List.forall_mem_nil _⟩⟩
  · have h := hall (_, _) (trapNumber_toNat_reg s rs1 rs2)
    iterate 16 refine List.forall_mem_cons.mpr ⟨h _, ?_⟩
    exact List.forall_mem_nil _
  · have h := hall (_, _) (trapNumber_toNat_imm s rs1 imm7)
    iterate 16 refine List.forall_mem_cons.mpr ⟨h _, ?_⟩
    exact List.forall_mem_nil _

theorem exec_jmpl_eq (s : State) (rd rs1 : Reg) (o : RegOrImm) : exec (.jmpl rd rs1 o) s =
    raiseIf (misaligned 4 (s.ea rs1 o)) .memAddressNotAligned s (.next ((s.setR rd s.pc).retire.transfer (s.ea rs1 o)).markJmpl) :=
  rfl

/-- What a JMPL to a word address does (R471). -/
theorem jmpl_spec (s : State) (rd rs1 : Reg) (o : RegOrImm) (h : (s.ea rs1 o).toNat % 4 = 0) :
    ∃ t, exec (.jmpl rd rs1 o) s = .next t ∧ t.pc = s.npc ∧ t.npc = s.ea rs1 o ∧ writesReg s t s.cwpRead rd s.pc
      ∧ t.psr = s.psr ∧ t.y = s.y ∧ memKept s t ∧ fpuKept s t ∧ systemKept s t ∧ t.haz = { s.haz.age with prevJmpl := true } := by
  rw [exec_jmpl_eq, misaligned_eq_false.mpr h]
  exact ⟨_, rfl, by simp [State.markJmpl], rfl, writesReg_congr (writesReg_setRw s _ rd s.pc) rfl rfl, by simp [State.markJmpl],
    by simp [State.markJmpl], memKept_of_eq (by simp [State.markJmpl]),
    fpuKept_of_eq (by simp [State.markJmpl]) (by simp [State.markJmpl]), by simp [systemKept, State.markJmpl],
    by simp [State.markJmpl]⟩

/-- Settles O27. -/
theorem callAndJmplTransfer : Obligations.CallAndJmplTransfer := by
  unfold Obligations.CallAndJmplTransfer
  intro s disp30 rd rs1 o
  refine ⟨?_, jmpl_spec s rd rs1 o, fun h => ?_⟩
  · exact ⟨_, rfl, by simp, Branches.callTarget_eq s.pc disp30, writesReg_congr (writesReg_setRw s _ 15 s.pc) rfl rfl, by simp,
      by simp, memKept_of_eq (by simp), fpuKept_of_eq (by simp) (by simp), by simp [systemKept], by simp, by simp⟩
  · rw [exec_jmpl_eq, misaligned_eq_true.mpr h]
    exact raise_cases _ _

/-! ### RETT -/

/-- RETT outside the windows of WRPSR and WRWIM: the tests read the registers as they are (R472). -/
theorem exec_rett_settled {s : State} (h0 : s.haz.psr.count = 0) (h1 : s.haz.wim.count = 0) (rs1 : Reg) (o : RegOrImm) :
    exec (.rett rs1 o) s =
      if s.psr.et then raiseFromRett (if s.psr.s then .illegalInstruction else .privilegedInstruction) s
      else if !s.psr.s then .next (s.rettErrorMode .privilegedInstruction)
      else if s.wim.getLsbD ((s.window + 1) % Config.nwindows) then .next (s.rettErrorMode .windowUnderflow)
      else if misaligned 4 (s.ea rs1 o) then .next (s.rettErrorMode .memAddressNotAligned)
      else .next ((s.returnFromTrap ((s.window + 1) % Config.nwindows) (s.ea rs1 o)).retire.markFetchSpace (!s.haz.prevJmpl)) := by
  change execRett rs1 o s = _
  rw [execRett, etRead_settled h0, sRead_settled h0, cwpRead_settled h0,
    Integer.wimRead_getLsbD h1 (Invariant.windowAbove_lt s.window)]
  rfl

/-- Settles O28. -/
theorem rettReturnsFromTrap : Obligations.RettReturnsFromTrap := by
  unfold Obligations.RettReturnsFromTrap
  intro s rs1 o h0 h1 _ het hs hw ha
  rw [exec_rett_settled h0 h1, het, hs, hw, misaligned_eq_false.mpr ha]
  refine ⟨_, rfl, rfl, rfl, ?_, regsKept_congr rfl rfl, rfl, memKept_of_eq rfl, fpuKept_of_eq rfl rfl,
    ⟨rfl, rfl, rfl, rfl, rfl, rfl⟩, rfl⟩
  simp [State.markFetchSpace, State.returnFromTrap, State.setCwp, State.transfer, written_settled _ _ h0, psRead_settled h0]

/-- A RETT that finds ET = 1 raises, out of RETT. -/
theorem exec_rett_enabled {s : State} (h : s.etRead = true) (rs1 : Reg) (o : RegOrImm) :
    exec (.rett rs1 o) s = raiseFromRett (if s.sRead then .illegalInstruction else .privilegedInstruction) s := by
  change execRett rs1 o s = _
  rw [execRett, h]
  rfl

/-- Settles O29. -/
theorem rettTrapsOrEntersErrorMode : Obligations.RettTrapsOrEntersErrorMode := by
  unfold Obligations.RettTrapsOrEntersErrorMode
  refine ⟨fun s rs1 o h0 h1 _ => ?_, fun s rs1 o het => ?_⟩
  · dsimp only
    rw [exec_rett_settled h0 h1]
    refine ⟨fun het => ?_, fun het hs => ?_, fun het hs hw => ?_, fun het hs hw ha => ?_⟩
    · rw [het, if_pos rfl, (raiseFromRett_cases _ s).1 ((trapEt_settled h0).trans het)]
      cases s.psr.s <;> rfl
    · rw [het, hs]; rfl
    · rw [het, hs, hw]; rfl
    · rw [het, hs, hw, misaligned_eq_true.mpr ha]; rfl
  · dsimp only
    rw [exec_rett_enabled het, raiseFromRett]
    cases s.sRead <;> cases s.trapEt <;> rfl

/-! ### Taking and raising a trap -/

theorem drawOld_eq_drawnValue {α : Type} (count : Nat) (old : Option α) (draw : Bool) (new : α) :
    drawOld count old draw new = drawnValue count old draw new := by
  unfold drawOld drawnValue
  cases old <;> simp

/-- The registers a trap entry writes (R610): r[17] and r[18] of the window below. -/
theorem rw_trapEntry (s : State) (tt : BitVec 8) (v : Nat) (j : Reg) :
    (s.trapEntry tt).rw v j = ((s.setRw (windowBelow s.trapCwp) 17 s.pc).setRw (windowBelow s.trapCwp) 18 s.npc).rw v j :=
  rw_congr rfl rfl v j

/-- r[17] and r[18] of a window are two registers. -/
theorem not_sameReg_18_17 (w : Nat) : ¬ sameReg w 18 w 17 := by
  unfold sameReg State.slot
  simp [Config.nwindows]
  omega

/-- Settles O31. -/
theorem trapEntrySavesAndVectors : Obligations.TrapEntrySavesAndVectors := by
  unfold Obligations.TrapEntrySavesAndVectors
  intro s tt
  dsimp only
  rw [← drawOld_eq_drawnValue, ← drawOld_eq_drawnValue, ← drawOld_eq_drawnValue]
  refine ⟨State.trapEntry_psr s tt, Invariant.toNat_ofNat_window (Invariant.windowBelow_lt _), ?_, ?_, fun v j h17 h18 => ?_,
    rfl, rfl, rfl, State.trapEntry_y s tt, State.trapEntry_wim s tt,
    fpuKept_of_eq (State.trapEntry_f s tt) (State.trapEntry_fsr s tt), memKept_of_eq (State.trapEntry_mem s tt),
    State.trapEntry_errorMode s tt, ?_, State.trapEntry_flushPending s tt, State.trapEntry_irl s tt, State.trapEntry_memFaults s tt⟩
  · exact (rw_trapEntry ..).trans ((rw_setRw_other _ _ _ _ _ _ (not_sameReg_18_17 _)).trans
      (rw_setRw_same _ _ _ _ _ _ (by decide) (sameReg_self _ _)))
  · exact (rw_trapEntry ..).trans (rw_setRw_same _ _ _ _ _ _ (by decide) (sameReg_self _ _))
  · exact (rw_trapEntry ..).trans ((rw_setRw_other _ _ _ _ _ _ h18).trans (rw_setRw_other _ _ _ _ _ _ h17))
  · rw [State.trapEntry_haz, Hazards.agedQuirks_eq]

/-- ET as `raise` uses it, spelled out. -/
theorem trapEt_eq (s : State) : s.trapEt =
    if 0 < s.haz.psr.count ∧ s.haz.psr.et.isSome then Config.drawTrapEt s.freeCount else s.psr.et := by
  simp [State.trapEt, readField, Machine.hidden]

/-- Settles O32. -/
theorem raiseEntersTrapOrErrorMode : Obligations.RaiseEntersTrapOrErrorMode := by
  unfold Obligations.RaiseEntersTrapOrErrorMode
  intro s x
  dsimp only
  rw [← trapEt_eq]
  exact ⟨(raise_cases x s).1, fun h => ⟨_, (raise_cases x s).2 h, rfl⟩⟩

end Sys2Proof.Proofs.Transfers

namespace Sys2Proof.Proofs.Enables
open Sys2Proof.Machine Sys2Proof.Proofs.Step

/-! ### The tests every instruction of a class makes first -/

theorem traps_needSupervisor {s : State} (h : s.sRead = false) (k : Result) : traps (needSupervisor s k) .privilegedInstruction s :=
  traps_of_eq (needSupervisor_trap h)

theorem traps_needFpu {s : State} (h : s.efRead = false) (k : Result) : traps (needFpu s k) .fpDisabled s :=
  traps_of_eq (needFpu_trap h)

/-- Settles O44. -/
theorem privilegedInstructionsTrapInUserMode : Obligations.PrivilegedInstructionsTrapInUserMode := by
  unfold Obligations.PrivilegedInstructionsTrapInUserMode
  intro s rd rs1 rs2 o i asi hs
  have h (k : Result) := traps_needSupervisor hs k
  refine ⟨?_, fun het => ?_⟩
  · simp only [List.forall_mem_cons]
    exact ⟨h _, h _, h _, h _, h _, h _, h _, h _, h _, h _, h _, h _, h _, h _, h _, h _, h _, h _, h _, h _, List.forall_mem_nil _⟩
  · rw [Transfers.exec_rett_enabled het, hs, raiseFromRett]
    cases s.trapEt <;> rfl

/-- Settles O46: `Config.hasCp` is false, so `needCp` computes to its trap. -/
theorem coprocessorInstructionsTrap : Obligations.CoprocessorInstructionsTrap := by
  unfold Obligations.CoprocessorInstructionsTrap
  intro s rd rs1 rs2 o a d opc
  refine ⟨?_, fun hs => traps_of_eq ((needSupervisor_ok hs).trans (needCp_trap s _))⟩
  iterate 24 refine List.forall_mem_cons.mpr ⟨traps_of_eq rfl, ?_⟩
  exact List.forall_mem_nil _

/-! ### illegal_instruction -/

/-- An alternate-space form with i = 1 (R207, R227). -/
theorem traps_alternate_immediate {s : State} (h : s.sRead = true) (k : Result) : traps (alternate s true k) .illegalInstruction s :=
  traps_of_eq (needSupervisor_ok h)

/-- An alternate-space form with i = 0, in supervisor mode, goes on. -/
theorem alternate_ok {s : State} (h : s.sRead = true) (k : Result) : alternate s false k = k := needSupervisor_ok h

theorem loadDouble_odd (s : State) (asi : Asi) (ea : Word) {rd : Reg} (h : isOdd rd = true) :
    loadDouble s asi ea rd = raise .illegalInstruction s := by rw [loadDouble, h]; rfl

theorem storeDouble_odd (s : State) (asi : Asi) (ea : Word) {rd : Reg} (h : isOdd rd = true) :
    storeDouble s asi ea rd = raise .illegalInstruction s := by rw [storeDouble, h]; rfl

/-- Settles O47. -/
theorem illegalInstructionTraps : Obligations.IllegalInstructionTraps := by
  unfold Obligations.IllegalInstructionTraps
  intro s const22 rd rs1 rs2 o asi
  refine ⟨traps_of_eq rfl, fun hs => ?_, fun hodd => ⟨?_, fun hs => ?_⟩, fun hs hv =>
    traps_of_eq (StateRegisters.execWrpsr_noWindow hs rs1 o hv)⟩
  · have h (k : Result) := traps_alternate_immediate hs k
    simp only [List.forall_mem_cons]
    exact ⟨h _, h _, h _, h _, h _, h _, h _, h _, h _, h _, h _, h _, List.forall_mem_nil _⟩
  · simp only [List.forall_mem_cons]
    exact ⟨traps_of_eq (loadDouble_odd s _ _ hodd), traps_of_eq (storeDouble_odd s _ _ hodd), List.forall_mem_nil _⟩
  · simp only [List.forall_mem_cons]
    exact ⟨traps_of_eq ((alternate_ok hs _).trans (loadDouble_odd s _ _ hodd)),
      traps_of_eq ((alternate_ok hs _).trans (storeDouble_odd s _ _ hodd)), List.forall_mem_nil _⟩

end Sys2Proof.Proofs.Enables

end

section
/-! Loads, stores and atomics. What they share is said once (`IsAccess`): past its other checks each traps on a misaligned address,
and at an aligned one is one `access`, with a fault branch and a completion of its own. Results, faults and refusals then follow from
the rules of `access`. -/

set_option Elab.async false

namespace Sys2Proof.Proofs.Accesses
open Sys2Proof.Machine Sys2Proof.Proofs.Step Sys2Proof.Proofs.Enables

/-! ### The shape of an access -/

/-- `L asi ea` is an access of `n` bytes at `ea`: `onFault` where MemFault answers, else `done`; a misaligned address traps. -/
structure IsAccess (s : State) (n : Nat) (kind : AccessKind) (onFault : Asi → Word → AccessFault → Result)
    (done : Asi → Word → Result) (L : Asi → Word → Result) : Prop where
  aligned : ∀ asi ea, ea.toNat % n = 0 → L asi ea = access s asi ea n kind (onFault asi ea) (done asi ea)
  misaligned : ∀ asi ea, ea.toNat % n ≠ 0 → L asi ea = raise .memAddressNotAligned s

/-- The fault branch of an access that then leaves everything as it was. -/
def trapOnly (s : State) (_asi : Asi) (_ea : Word) (f : AccessFault) : Result := raise (dataTrap f) s

section
variable {s : State} {n : Nat} {kind : AccessKind} {onFault : Asi → Word → AccessFault → Result} {done : Asi → Word → Result}
  {L : Asi → Word → Result}

theorem IsAccess.of_raiseIf (h : ∀ asi ea, L asi ea =
    raiseIf (Machine.misaligned n ea) .memAddressNotAligned s (access s asi ea n kind (onFault asi ea) (done asi ea))) :
    IsAccess s n kind onFault done L where
  aligned asi ea ha := by rw [h, misaligned_eq_false.mpr ha, raiseIf_false]
  misaligned asi ea ha := by rw [h, misaligned_eq_true.mpr ha, raiseIf_true]

theorem IsAccess.of_byte (h : ∀ asi ea, L asi ea = access s asi ea 1 kind (onFault asi ea) (done asi ea)) :
    IsAccess s 1 kind onFault done L where
  aligned asi ea _ := h asi ea
  misaligned _ ea ha := absurd (Nat.mod_one ea.toNat) ha

theorem IsAccess.completes (A : IsAccess s n kind onFault done L) {asi : Asi} {ea : Word} (ha : asiAssigned asi = true)
    (hal : ea.toNat % n = 0) (hf : s.memFault asi ea n kind = none) : L asi ea = done asi ea :=
  (A.aligned asi ea hal).trans (access_ok ha hf)

theorem IsAccess.faults (A : IsAccess s n kind onFault done L) {asi : Asi} {ea : Word} {f : AccessFault}
    (ha : asiAssigned asi = true) (hal : ea.toNat % n = 0) (hf : s.memFault asi ea n kind = some f) : L asi ea = onFault asi ea f :=
  (A.aligned asi ea hal).trans (access_fault ha hf)

theorem IsAccess.refused (A : IsAccess s n kind onFault done L) {asi : Asi} {ea : Word} (ha : asi ∉ [(0x08 : Asi), 0x09, 0x0A, 0x0B])
    (hal : ea.toNat % n = 0) : L asi ea = .refused .unassignedAsi :=
  (A.aligned asi ea hal).trans (access_unassigned ha)

/-- The two instructions of one access, through the data space of the mode and through the space named: both complete with what
`done` gives. -/
theorem IsAccess.both_complete (A : IsAccess s n kind onFault done L) {i ia : Instr} {ea alt : Word} {asi : Asi}
    (hi : exec i s = L s.dasi ea) (halt : exec ia s = alternate s false (L asi alt)) {Q : Result → Word → Prop}
    (hQ : ∀ asi ea, Q (done asi ea) ea) :
    (ea.toNat % n = 0 → s.memFault s.dasi ea n kind = none → Q (exec i s) ea)
    ∧ (s.sRead = true → asi ∈ [0x08, 0x09, 0x0A, 0x0B] → alt.toNat % n = 0 → s.memFault asi alt n kind = none →
        Q (exec ia s) alt) := by
  refine ⟨fun hal hf => ?_, fun hs hasi hal hf => ?_⟩
  · rw [hi, A.completes (asiAssigned_dasi s) hal hf]
    exact hQ _ _
  · rw [halt, alternate_ok hs, A.completes (asiAssigned_of_mem hasi) hal hf]
    exact hQ _ _

/-- The two instructions of one access fault as `onFault` does, and the one that names its space is refused where the spec assigns
that space to nothing. -/
theorem IsAccess.both_fault (A : IsAccess s n kind onFault done L) {i ia : Instr} {ea alt : Word} {asi : Asi} {f : AccessFault}
    (hi : exec i s = L s.dasi ea) (halt : exec ia s = alternate s false (L asi alt)) {Q : Result → Word → Prop}
    (hQ : ∀ asi ea, Q (onFault asi ea f) ea) :
    (ea.toNat % n = 0 → s.memFault s.dasi ea n kind = some f → Q (exec i s) ea)
    ∧ (s.sRead = true → alt.toNat % n = 0 →
        (asi ∈ [0x08, 0x09, 0x0A, 0x0B] → s.memFault asi alt n kind = some f → Q (exec ia s) alt)
        ∧ (¬ asi ∈ [0x08, 0x09, 0x0A, 0x0B] → exec ia s = .refused .unassignedAsi)) := by
  refine ⟨fun hal hf => ?_, fun hs hal => ⟨fun hasi hf => ?_, fun hasi => ?_⟩⟩
  · rw [hi, A.faults (asiAssigned_dasi s) hal hf]
    exact hQ _ _
  · rw [halt, alternate_ok hs, A.faults (asiAssigned_of_mem hasi) hal hf]
    exact hQ _ _
  · rw [halt, alternate_ok hs, A.refused hasi hal]

theorem IsAccess.traps_misaligned (A : IsAccess s n kind onFault done L) {i : Instr} {asi : Asi} {ea : Word}
    (hi : exec i s = L asi ea) (h : ea.toNat % n ≠ 0) : traps (exec i s) .memAddressNotAligned s :=
  traps_of_eq (hi.trans (A.misaligned asi ea h))

theorem IsAccess.traps_misaligned_alternate (A : IsAccess s n kind onFault done L) (hs : s.sRead = true) {ia : Instr} {asi : Asi}
    {ea : Word} (hi : exec ia s = alternate s false (L asi ea)) (h : ea.toNat % n ≠ 0) :
    traps (exec ia s) .memAddressNotAligned s :=
  A.traps_misaligned (hi.trans (alternate_ok hs _)) h

end

/-! ### The accesses of the model -/

section
variable (s : State) (rd : Reg)

theorem loadByte_access (extend : Byte → Word) : IsAccess s 1 .load (trapOnly s) (fun _ ea => writeReg s rd (extend (s.byte ea)))
    (fun asi ea => loadByte s asi ea rd extend) := .of_byte fun _ _ => rfl

theorem loadHalf_access (extend : BitVec 16 → Word) :
    IsAccess s 2 .load (trapOnly s) (fun _ ea => writeReg s rd (extend (s.half ea))) (fun asi ea => loadHalf s asi ea rd extend) :=
  .of_raiseIf fun _ _ => rfl

theorem loadWord_access : IsAccess s 4 .load (trapOnly s) (fun _ ea => writeReg s rd (s.word ea))
    (fun asi ea => loadWord s asi ea rd) := .of_raiseIf fun _ _ => rfl

theorem storeByte_access : IsAccess s 1 .store (trapOnly s) (fun _ ea => finish (s.store ea [(s.r rd).extractLsb' 0 8]))
    (fun asi ea => storeByte s asi ea rd) := .of_byte fun _ _ => rfl

theorem storeHalf_access :
    IsAccess s 2 .store (trapOnly s) (fun _ ea => finish (s.store ea (halfBytes ((s.r rd).extractLsb' 0 16))))
      (fun asi ea => storeHalf s asi ea rd) := .of_raiseIf fun _ _ => rfl

theorem storeWord_access (v : Word) : IsAccess s 4 .store (trapOnly s) (fun _ ea => finish (s.store ea (wordBytes v)))
    (fun asi ea => storeWord s asi ea v) := .of_raiseIf fun _ _ => rfl

/-- The fault branch of a doubleword access: the trap, with `half` done or not (R113). -/
def trapHalf (kind : AccessKind) (half : Word → State) (asi : Asi) (ea : Word) (f : AccessFault) : Result :=
  raise (dataTrap f) (if s.firstHalfDone asi ea kind then half ea else s)

theorem evenReg_of_even {rd : Reg} (h : isOdd rd = false) : evenReg rd = rd := by revert rd; decide

theorem toNat_oddReg_of_even {rd : Reg} (h : isOdd rd = false) : (oddReg rd).toNat = rd.toNat + 1 := by revert rd; decide

theorem loadDouble_access {rd : Reg} (h : isOdd rd = false) :
    IsAccess s 8 .load (trapHalf s .load (fun ea => s.setR rd (s.word ea)))
      (fun _ ea => finish ((s.setR rd (s.word ea)).setR (oddReg rd) (s.word (ea + 4)))) (fun asi ea => loadDouble s asi ea rd) :=
  .of_raiseIf fun asi ea => by rw [loadDouble, h, evenReg_of_even h]; rfl

/-- A doubleword store past its register check. -/
theorem storePair_access (hi lo : Word) {L : Asi → Word → Result}
    (h : ∀ asi ea, L asi ea = raiseIf (misaligned 8 ea) .memAddressNotAligned s (storePair s asi ea hi lo)) :
    IsAccess s 8 .store (trapHalf s .store (fun ea => s.store ea (wordBytes hi)))
      (fun _ ea => finish (s.store ea (wordBytes hi ++ wordBytes lo))) L :=
  .of_raiseIf h

theorem storeDouble_access {rd : Reg} (h : isOdd rd = false) :
    IsAccess s 8 .store (trapHalf s .store (fun ea => s.store ea (wordBytes (s.r rd))))
      (fun _ ea => finish (s.store ea (wordBytes (s.r rd) ++ wordBytes (s.r (oddReg rd)))))
      (fun asi ea => storeDouble s asi ea rd) :=
  storePair_access s _ _ fun asi ea => by rw [storeDouble, h, evenReg_of_even h]; rfl

/-- The fault branch of an FP load: the trap, with the destination set to a constant or not (R113). -/
def trapLoaded (set : State → State) (_asi : Asi) (_ea : Word) (f : AccessFault) : Result := raise (dataTrap f) (s.faultedLoad set)

/-- LDF past the check of EF. -/
def loadSingle (asi : Asi) (ea : Word) : Result :=
  raiseIf (misaligned 4 ea) .memAddressNotAligned s <|
    access s asi ea 4 .load (trapLoaded s (fun t => t.setF rd Config.faultedSingle) asi ea) (finish (s.setF rd (s.word ea)))

/-- LDDF past the check of EF. -/
def loadPair (asi : Asi) (ea : Word) : Result :=
  raiseIf (misaligned 8 ea) .memAddressNotAligned s <| fpRegister .double rd s <|
    access s asi ea 8 .load (trapLoaded s (fun t => t.setFD rd Config.faultedDouble) asi ea) (finish (s.setFD rd (s.dword ea)))

/-- LDFSR past the check of EF. -/
def loadState (asi : Asi) (ea : Word) : Result :=
  raiseIf (misaligned 4 ea) .memAddressNotAligned s <|
    accessOrTrap s asi ea 4 .load (.next (s.loadFsr (s.word ea)).retire.advance.openLdfsr)

/-- STDF past the check of EF. -/
def storeFloatPair (asi : Asi) (ea : Word) : Result :=
  raiseIf (misaligned 8 ea) .memAddressNotAligned s <| fpRegister .double rd s <|
    storePair s asi ea (s.fr (evenReg rd)) (s.fr (oddReg rd))

theorem loadSingle_access : IsAccess s 4 .load (trapLoaded s (fun t => t.setF rd Config.faultedSingle))
    (fun _ ea => finish (s.setF rd (s.word ea))) (loadSingle s rd) := .of_raiseIf fun _ _ => rfl

theorem fpMisaligned_double (rd : Reg) : fpMisaligned .double rd = isOdd rd := by revert rd; decide

/-- An even double register number passes the register check. -/
theorem fpRegister_double_ok {rd : Reg} (h : isOdd rd = false) (k : Result) : fpRegister .double rd s k = k := by
  rw [fpRegister, fpMisaligned_double, h]; rfl

theorem loadPair_access {rd : Reg} (h : isOdd rd = false) :
    IsAccess s 8 .load (trapLoaded s (fun t => t.setFD rd Config.faultedDouble))
      (fun _ ea => finish (s.setFD rd (s.dword ea))) (loadPair s rd) :=
  .of_raiseIf fun asi ea => by rw [loadPair, fpRegister_double_ok s h]

theorem loadState_access : IsAccess s 4 .load (trapOnly s)
    (fun _ ea => .next (s.loadFsr (s.word ea)).retire.advance.openLdfsr) (loadState s) := .of_raiseIf fun _ _ => rfl

theorem storeFloatPair_access {rd : Reg} (h : isOdd rd = false) :
    IsAccess s 8 .store (trapHalf s .store (fun ea => s.store ea (wordBytes (s.fr rd))))
      (fun _ ea => finish (s.store ea (wordBytes (s.fr rd) ++ wordBytes (s.fr (oddReg rd))))) (storeFloatPair s rd) :=
  storePair_access s _ _ fun asi ea => by rw [storeFloatPair, fpRegister_double_ok s h, evenReg_of_even h]

/-- The store half of an atomic: the trap, with r[rd] loaded or not (R113, log 28). -/
def trapAtomic (loaded : Word) (f : AccessFault) : Result :=
  raise (dataTrap f) (if Config.drawFirstHalf s.freeCount then s.setR rd loaded else s)

/-- The read half of an atomic: a store_error is of its store half (log 28). -/
def trapAtomicRead (loaded : Word → Word) (_asi : Asi) (ea : Word) (f : AccessFault) : Result :=
  if f = .storeError then trapAtomic s rd (loaded ea) f else raise (dataTrap f) s

theorem loadStoreByte_access : IsAccess s 1 .atomic (trapAtomicRead s rd (fun ea => (s.byte ea).zeroExtend 32))
    (fun asi ea => access s asi ea 1 .store (trapAtomic s rd ((s.byte ea).zeroExtend 32))
      (finish ((s.store ea [0xFF]).setR rd ((s.byte ea).zeroExtend 32))))
    (fun asi ea => loadStoreByte s asi ea rd) := .of_byte fun _ _ => rfl

theorem swapWord_access : IsAccess s 4 .atomic (trapAtomicRead s rd s.word)
    (fun asi ea => access s asi ea 4 .store (trapAtomic s rd (s.word ea))
      (finish ((s.store ea (wordBytes (s.r rd))).setR rd (s.word ea))))
    (fun asi ea => swapWord s asi ea rd) := .of_raiseIf fun _ _ => rfl

end

/-! ### The instructions as accesses -/

section
variable {s : State} (hf : s.efRead = true) (rd rs1 : Reg) (o : RegOrImm)
include hf

theorem exec_ldf : exec (.ldf rd rs1 o) s = loadSingle s rd s.dasi (s.ea rs1 o) := needFpu_ok hf
theorem exec_lddf : exec (.lddf rd rs1 o) s = loadPair s rd s.dasi (s.ea rs1 o) := needFpu_ok hf
theorem exec_ldfsr : exec (.ldfsr rd rs1 o) s = loadState s s.dasi (s.ea rs1 o) :=
  (needFpu_ok hf).trans (by rw [reserved_ignored]; rfl)
theorem exec_stf : exec (.stf rd rs1 o) s = storeWord s s.dasi (s.ea rs1 o) (s.fr rd) := needFpu_ok hf
theorem exec_stdf : exec (.stdf rd rs1 o) s = storeFloatPair s rd s.dasi (s.ea rs1 o) := needFpu_ok hf
/-- STFSR leaves the FSR (`Config.stfsrClearsFtt` is false, D28): it is a word store of the FSR. -/
theorem exec_stfsr : exec (.stfsr rd rs1 o) s = storeWord s s.dasi (s.ea rs1 o) s.fsrWord := needFpu_ok hf

end

end Sys2Proof.Proofs.Accesses

namespace Sys2Proof.Proofs.LoadStore
open Sys2Proof.Machine Sys2Proof.Proofs.Step Sys2Proof.Proofs.Accesses Sys2Proof.Proofs.Enables

/-! ### Integer loads -/

/-- `r` loads `v ea` into r[rd] and completes. -/
def LoadsReg (s : State) (rd : Reg) (v : Word → Word) (r : Result) (ea : Word) : Prop :=
  ∃ t, r = .next t ∧ sequential s t ∧ writesReg s t s.cwpRead rd (v ea) ∧ t.psr = s.psr ∧ t.y = s.y ∧ integerFrame s t

/-- A load and its alternate-space form, which load `v ea` into r[rd]. -/
theorem load_pair_completes {s : State} {n : Nat} {rd : Reg} {v : Word → Word} {L : Asi → Word → Result}
    (A : IsAccess s n .load (trapOnly s) (fun _ ea => writeReg s rd (v ea)) L) {i ia : Instr} {ea alt : Word} {asi : Asi}
    (hi : exec i s = L s.dasi ea) (halt : exec ia s = alternate s false (L asi alt)) :
    (ea.toNat % n = 0 → s.memFault s.dasi ea n .load = none → LoadsReg s rd v (exec i s) ea)
    ∧ (s.sRead = true → asi ∈ [0x08, 0x09, 0x0A, 0x0B] → alt.toNat % n = 0 → s.memFault asi alt n .load = none →
        LoadsReg s rd v (exec ia s) alt) :=
  A.both_complete hi halt fun _ ea => writeReg_spec s rd (v ea)

/-- Settles O35: each pair of loads is one access, byte, halfword or word. -/
theorem loadResults : Obligations.LoadResults := by
  unfold Obligations.LoadResults
  intro s rd rs1 rs2 o asi
  refine List.forall_mem_cons.mpr ⟨load_pair_completes (loadByte_access s rd (BitVec.signExtend 32)) rfl rfl, ?_⟩
  refine List.forall_mem_cons.mpr ⟨load_pair_completes (loadByte_access s rd (BitVec.zeroExtend 32)) rfl rfl, ?_⟩
  refine List.forall_mem_cons.mpr ⟨load_pair_completes (loadHalf_access s rd (BitVec.signExtend 32)) rfl rfl, ?_⟩
  refine List.forall_mem_cons.mpr ⟨load_pair_completes (loadHalf_access s rd (BitVec.zeroExtend 32)) rfl rfl, ?_⟩
  exact List.forall_mem_cons.mpr ⟨load_pair_completes (loadWord_access s rd) rfl rfl, List.forall_mem_nil _⟩

theorem cwpRead_setR (s : State) (i : Reg) (v : Word) : (s.setR i v).cwpRead = s.cwpRead := by simp [State.cwpRead]

/-- The two registers of a pair differ in every window. -/
theorem not_sameReg_oddReg {rd : Reg} (h : isOdd rd = false) (w : Nat) : ¬ sameReg w (oddReg rd) w rd := by
  have hodd := toNat_oddReg_of_even h
  unfold sameReg State.slot
  split
  · intro he
    rw [he] at hodd
    omega
  · simp only [Config.nwindows]
    omega

/-- The two registers a doubleword load writes. -/
theorem writesPair_setR (s : State) {rd : Reg} (h : isOdd rd = false) (hi lo : Word) :
    writesPair s ((s.setR rd hi).setR (oddReg rd) lo) s.cwpRead rd hi lo := by
  have hne : oddReg rd ≠ 0 := fun h0 => by have := toNat_oddReg_of_even h; rw [h0] at this; cases this
  have hset : (s.setR rd hi).setR (oddReg rd) lo = (s.setRw s.cwpRead rd hi).setRw s.cwpRead (oddReg rd) lo := by
    rw [State.setR, cwpRead_setR]; rfl
  rw [hset]
  refine ⟨?_, rw_setRw_same _ _ _ _ _ _ hne (sameReg_self _ _), fun v j hrd hodd => ?_⟩
  · exact (rw_setRw_other _ _ _ _ _ _ (not_sameReg_oddReg h _)).trans (writesReg_setRw s _ rd hi).1
  · exact (rw_setRw_other _ _ _ _ _ _ hodd).trans (rw_setRw_other _ _ _ _ _ _ hrd)

/-- `r` loads the doubleword at `ea` into r[rd] and r[rd + 1] and completes. -/
def LoadsPair (s : State) (rd : Reg) (r : Result) (ea : Word) : Prop :=
  ∃ t, r = .next t ∧ sequential s t ∧ writesPair s t s.cwpRead rd (s.word ea) (s.word (ea + 4)) ∧ t.psr = s.psr ∧ t.y = s.y
    ∧ integerFrame s t

theorem loadsPair_finish (s : State) {rd : Reg} (h : isOdd rd = false) (ea : Word) :
    LoadsPair s rd (finish ((s.setR rd (s.word ea)).setR (oddReg rd) (s.word (ea + 4)))) ea :=
  ⟨_, rfl, sequential_finish _ (by simp), writesPair_setR s h _ _, by simp, by simp,
    integerFrame_finish (by simp) (by simp) (by simp) (by simp) (by simp) (by simp) (by simp) (by simp) (by simp) (by simp)
      (by simp)⟩

/-- Settles O36. -/
theorem doubleLoadResults : Obligations.DoubleLoadResults := by
  unfold Obligations.DoubleLoadResults
  intro s rd rs1 rs2 o asi hrd
  exact (loadDouble_access s hrd).both_complete (Q := LoadsPair s rd) rfl rfl
    fun _ ea => loadsPair_finish s hrd ea

/-! ### Floating-point loads -/

/-- What is read of the f registers depends on their bank only. -/
theorem writesFp_congr {s u t : State} {fmt : FpFormat} {rd : Reg} {bits : Nat} (hf : t.f = u.f) (h : writesFp s u fmt rd bits) :
    writesFp s t fmt rd bits := by
  have hfr (i : Reg) : t.fr i = u.fr i := by unfold State.fr; simp only [hf]
  cases fmt <;> simpa [writesFp, State.frD, State.frQ, hfr] using h

theorem setF_eq_setFp (s : State) (rd : Reg) (v : Word) : s.setF rd v = s.setFp .single rd v.toNat := by simp [State.setFp]
theorem setFD_eq_setFp (s : State) (rd : Reg) (v : DWord) : s.setFD rd v = s.setFp .double rd v.toNat := by simp [State.setFp]

/-- An instruction that leaves all but the f registers, the FSR and the hazards has the frame of an FPop. -/
theorem fpopFrame_of_eq {s t : State} (hg : t.globals = s.globals) (hw : t.windows = s.windows) (hp : t.psr = s.psr)
    (hy : t.y = s.y) (hm : t.mem = s.mem) (hsys : systemKept s t) : fpopFrame s t :=
  ⟨regsKept_congr hg hw, hp, hy, memKept_of_eq hm, hsys⟩

/-- Writing f registers and completing. -/
theorem finish_setFp_spec (s : State) (fmt : FpFormat) (rd : Reg) (bits : Nat) :
    ∃ t, finish (s.setFp fmt rd bits) = .next t ∧ sequential s t ∧ writesFp s t fmt rd bits ∧ t.fsr = s.fsr ∧ fpopFrame s t
      ∧ t.haz = s.haz.age :=
  ⟨_, rfl, sequential_finish _ (by simp), writesFp_congr (by simp) (setFp_spec s fmt rd bits), by simp,
    fpopFrame_of_eq (by simp) (by simp) (by simp) (by simp) (by simp) (by simp [systemKept]), by simp⟩

/-- Settles O37. -/
theorem floatingPointLoadResults : Obligations.FloatingPointLoadResults := by
  unfold Obligations.FloatingPointLoadResults
  intro s rd rs1 o hef
  dsimp only
  refine ⟨fun hal hf => ⟨?_, ?_⟩, fun hrd hal hf => ?_⟩
  · rw [exec_ldf hef, (loadSingle_access s rd).completes (asiAssigned_dasi s) hal hf, setF_eq_setFp]
    exact finish_setFp_spec s .single rd _
  · rw [exec_ldfsr hef, (loadState_access s).completes (asiAssigned_dasi s) hal hf]
    exact ⟨_, rfl, ⟨rfl, rfl⟩, fun _ => rfl, rfl, fpopFrame_of_eq rfl rfl rfl rfl rfl ⟨rfl, rfl, rfl, rfl, rfl, rfl⟩, rfl⟩
  · rw [exec_lddf hef, (loadPair_access s hrd).completes (asiAssigned_dasi s) hal hf, setFD_eq_setFp]
    exact finish_setFp_spec s .double rd _

/-! ### Stores -/

/-- `r` stores the low `n` bytes of `v` at `ea` and completes. -/
def StoresLow (s : State) (n : Nat) (v : Word) (r : Result) (ea : Word) : Prop :=
  ∃ t, r = .next t ∧ sequential s t ∧ memKeptBut s t ea n
    ∧ (∀ k, k < n → t.byte (ea + BitVec.ofNat 32 k) = v.extractLsb' (8 * (n - 1 - k)) 8) ∧ storeFrame s t ea

/-- `bs` are the low `n` bytes of `v`, most significant first (R105). -/
def IsLowBytes (n : Nat) (v : Word) (bs : List Byte) : Prop :=
  ∃ h : bs.length = n, ∀ k, (hk : k < n) → bs[k] = v.extractLsb' (8 * (n - 1 - k)) 8

theorem isLowBytes_byte (v : Word) : IsLowBytes 1 v [v.extractLsb' 0 8] :=
  ⟨rfl, fun k hk => by obtain rfl : k = 0 := by omega
                       rfl⟩

theorem extract_half (v : Word) (k : Nat) (hk : k ≤ 8) : (v.extractLsb' 0 16).extractLsb' k 8 = v.extractLsb' k 8 := by
  apply BitVec.eq_of_getLsbD_eq
  intro i hi
  simp only [BitVec.getLsbD_extractLsb', hi, decide_true, Bool.true_and, Nat.zero_add]
  rw [decide_eq_true (by omega), Bool.true_and]

theorem isLowBytes_half (v : Word) : IsLowBytes 2 v (halfBytes (v.extractLsb' 0 16)) := by
  refine ⟨rfl, fun k hk => ?_⟩
  interval_cases k
  · exact extract_half v 8 (by omega)
  · exact extract_half v 0 (by omega)

theorem isLowBytes_word (v : Word) : IsLowBytes 4 v (wordBytes v) := by
  refine ⟨rfl, fun k hk => ?_⟩
  interval_cases k <;> rfl

theorem storesLow_finish {s : State} (hm : memWf s.mem = true) {n : Nat} (hn : n ≤ 8) {v : Word} {bs : List Byte}
    (h : IsLowBytes n v bs) (ea : Word) : StoresLow s n v (finish (s.store ea bs)) ea := by
  obtain ⟨hlen, hbs⟩ := h
  subst hlen
  obtain ⟨t, ht, hseq, hkept, hbyte, hframe⟩ := store_spec s ea bs hm hn
  exact ⟨t, ht, hseq, hkept, fun k hk => (hbyte k hk).trans (hbs k hk), hframe⟩

/-- Settles O38: each pair of stores is one access, byte, halfword or word. -/
theorem storeResults : Obligations.StoreResults := by
  unfold Obligations.StoreResults
  intro s rd rs1 rs2 o asi hm
  refine List.forall_mem_cons.mpr ⟨?_, List.forall_mem_cons.mpr ⟨?_, List.forall_mem_cons.mpr ⟨?_, List.forall_mem_nil _⟩⟩⟩
  · exact (storeByte_access s rd).both_complete (Q := StoresLow s 1 (s.r rd)) rfl rfl
      fun _ ea => storesLow_finish hm (by decide) (isLowBytes_byte _) ea
  · exact (storeHalf_access s rd).both_complete (Q := StoresLow s 2 (s.r rd)) rfl rfl
      fun _ ea => storesLow_finish hm (by decide) (isLowBytes_half _) ea
  · exact (storeWord_access s (s.r rd)).both_complete (Q := StoresLow s 4 (s.r rd)) rfl rfl
      fun _ ea => storesLow_finish hm (by decide) (isLowBytes_word _) ea

theorem storeWord_finish {s : State} (hm : memWf s.mem = true) (ea v : Word) :
    ∃ t, finish (s.store ea (wordBytes v)) = .next t ∧ sequential s t ∧ memKeptBut s t ea 4 ∧ t.word ea = v ∧ storeFrame s t ea := by
  obtain ⟨t, ht, hseq, hkept, hbyte, hframe⟩ := store_spec s ea (wordBytes v) hm (by decide : 4 ≤ 8)
  exact ⟨t, ht, hseq, hkept, word_of_bytes hbyte, hframe⟩

/-- `r` stores the words `hi` and `lo` at `ea` and completes. -/
def StoresPair (s : State) (hi lo : Word) (r : Result) (ea : Word) : Prop :=
  ∃ t, r = .next t ∧ sequential s t ∧ memKeptBut s t ea 8 ∧ t.word ea = hi ∧ t.word (ea + 4) = lo ∧ storeFrame s t ea

theorem storesPair_finish {s : State} (hm : memWf s.mem = true) (hi lo ea : Word) :
    StoresPair s hi lo (finish (s.store ea (wordBytes hi ++ wordBytes lo))) ea := by
  obtain ⟨t, ht, hseq, hkept, hbyte, hframe⟩ := store_spec s ea (wordBytes hi ++ wordBytes lo) hm (by decide : 8 ≤ 8)
  refine ⟨t, ht, hseq, hkept, word_of_bytes fun k hk => ?_, word_of_bytes fun k hk => ?_, hframe⟩
  · rw [hbyte k (by rw [List.length_append]; omega), List.getElem_append_left hk]
  · have haddr : ea + 4 + BitVec.ofNat 32 k = ea + BitVec.ofNat 32 (4 + k) := by
      rw [BitVec.ofNat_add, BitVec.add_assoc]; rfl
    rw [haddr, hbyte (4 + k) (by rw [List.length_append]; exact Nat.add_lt_add_left hk 4)]
    exact List.getElem_append_right' (wordBytes hi) hk ▸ by simp [Nat.add_comm, wordBytes]

/-- Settles O39. -/
theorem doubleStoreResults : Obligations.DoubleStoreResults := by
  unfold Obligations.DoubleStoreResults
  intro s rd rs1 rs2 o asi hm hrd
  exact (storeDouble_access s hrd).both_complete (Q := StoresPair s (s.r rd) (s.r (oddReg rd))) rfl rfl
    fun _ ea => storesPair_finish hm _ _ ea

/-- Settles O40. -/
theorem floatingPointStoreResults : Obligations.FloatingPointStoreResults := by
  unfold Obligations.FloatingPointStoreResults
  intro s rd rs1 o hm hef
  dsimp only
  refine ⟨fun hal hf => ?_, fun hrd hal hf => ?_⟩
  · refine List.forall_mem_cons.mpr ⟨?_, List.forall_mem_cons.mpr ⟨?_, List.forall_mem_nil _⟩⟩
    · dsimp only
      rw [exec_stf hef, (storeWord_access s _).completes (asiAssigned_dasi s) hal hf]
      exact storeWord_finish hm _ _
    · dsimp only
      rw [exec_stfsr hef, (storeWord_access s _).completes (asiAssigned_dasi s) hal hf]
      exact storeWord_finish hm _ _
  · rw [exec_stdf hef, (storeFloatPair_access s hrd).completes (asiAssigned_dasi s) hal hf]
    exact storesPair_finish hm _ _ _

/-! ### Atomics -/

/-- What an atomic leaves besides r[rd] and the bytes it stores. -/
def AtomicFrame (s t : State) : Prop :=
  sequential s t ∧ t.psr = s.psr ∧ t.y = s.y ∧ fpuKept s t ∧ systemKept s t ∧ t.haz = s.haz.age

/-- Storing bytes, then writing r[rd], and completing: the read and the write of an atomic. -/
theorem atomic_spec {s : State} (hm : memWf s.mem = true) (ea : Word) (bs : List Byte) (hl : bs.length ≤ 8) (rd : Reg) (v : Word) :
    ∃ t, finish ((s.store ea bs).setR rd v) = .next t ∧ writesReg s t s.cwpRead rd v
      ∧ (∀ (k : Nat) (hk : k < bs.length), t.byte (ea + BitVec.ofNat 32 k) = bs[k]) ∧ memKeptBut s t ea bs.length
      ∧ marksDoubleword s t ea ∧ AtomicFrame s t := by
  have hbyte (t : State) (h : t.mem = memWriteBytes s.mem ea bs) (a : Word) :
      t.byte a = memRead (memWriteBytes s.mem ea bs) a.toNat := by rw [State.byte, h]
  have hmem : ((s.store ea bs).setR rd v).retire.advance.mem = memWriteBytes s.mem ea bs := by simp
  have hstore : writesReg s ((s.store ea bs).setRw s.cwpRead rd v) s.cwpRead rd v := writesReg_setRw (s.store ea bs) s.cwpRead rd v
  refine ⟨_, rfl, writesReg_congr hstore rfl rfl, fun k hk => ?_, fun a ha => ?_, marksDoubleword_store s ea (by simp),
    sequential_finish _ (by simp), by simp, by simp, fpuKept_of_eq (by simp) (by simp), by simp [systemKept], by simp⟩
  · exact (hbyte _ hmem _).trans (Laws.memRead_memWriteBytes_at ea bs hm k hk (by omega))
  · exact (hbyte _ hmem _).trans (Laws.memRead_memWriteBytes_other s.mem ea a bs ha)

/-- An atomic whose read and write do not fault completes. -/
theorem atomic_completes {s : State} {n : Nat} {onFault : Asi → Word → AccessFault → Result} {onStore : Word → AccessFault → Result}
    {done : Word → Result} {L : Asi → Word → Result}
    (A : IsAccess s n .atomic onFault (fun asi ea => access s asi ea n .store (onStore ea) (done ea)) L) {asi : Asi} {ea : Word}
    (ha : asiAssigned asi = true) (hal : ea.toNat % n = 0)
    (hf : s.memFault asi ea n .atomic = none ∧ s.memFault asi ea n .store = none) : L asi ea = done ea :=
  (A.completes ha hal hf.1).trans (access_ok ha hf.2)

/-- `r` is a completed LDSTUB of the byte at `ea`. -/
def LoadsStoresByte (s : State) (rd : Reg) (r : Result) (ea : Word) : Prop :=
  ∃ t, r = .next t ∧ writesReg s t s.cwpRead rd ((s.byte ea).zeroExtend 32) ∧ t.byte ea = 0xFF ∧ memKeptBut s t ea 1
    ∧ marksDoubleword s t ea ∧ AtomicFrame s t

/-- `r` is a completed SWAP with the word at `ea`. -/
def Swaps (s : State) (rd : Reg) (r : Result) (ea : Word) : Prop :=
  ∃ t, r = .next t ∧ writesReg s t s.cwpRead rd (s.word ea) ∧ t.word ea = s.r rd ∧ memKeptBut s t ea 4
    ∧ marksDoubleword s t ea ∧ AtomicFrame s t

theorem loadStoreByte_done {s : State} (hm : memWf s.mem = true) (rd : Reg) {asi : Asi} {ea : Word} (ha : asiAssigned asi = true)
    (hf : s.memFault asi ea 1 .atomic = none ∧ s.memFault asi ea 1 .store = none) :
    LoadsStoresByte s rd (loadStoreByte s asi ea rd) ea := by
  obtain ⟨t, ht, hreg, hbyte, hkept, hmark, hrest⟩ := atomic_spec hm ea [0xFF] (by decide) rd ((s.byte ea).zeroExtend 32)
  exact ⟨t, (atomic_completes (loadStoreByte_access s rd) ha (Nat.mod_one _) hf).trans ht, hreg,
    by simpa using hbyte 0 (by decide), hkept, hmark, hrest⟩

theorem swapWord_done {s : State} (hm : memWf s.mem = true) (rd : Reg) {asi : Asi} {ea : Word} (ha : asiAssigned asi = true)
    (hf : s.memFault asi ea 4 .atomic = none ∧ s.memFault asi ea 4 .store = none) (hal : ea.toNat % 4 = 0) :
    Swaps s rd (swapWord s asi ea rd) ea := by
  obtain ⟨t, ht, hreg, hbyte, hkept, hmark, hrest⟩ :=
    atomic_spec hm ea (wordBytes (s.r rd)) (by decide : 4 ≤ 8) rd (s.word ea)
  exact ⟨t, (atomic_completes (swapWord_access s rd) ha hal hf).trans ht, hreg, word_of_bytes hbyte, hkept, hmark, hrest⟩

theorem exec_ldstuba {s : State} (hs : s.sRead = true) (rd rs1 rs2 : Reg) (asi : Asi) :
    exec (.ldstuba rd rs1 false asi rs2) s = loadStoreByte s asi (s.r rs1 + s.r rs2) rd := alternate_ok hs _

theorem exec_swapa {s : State} (hs : s.sRead = true) (rd rs1 rs2 : Reg) (asi : Asi) :
    exec (.swapa rd rs1 false asi rs2) s = swapWord s asi (s.r rs1 + s.r rs2) rd := alternate_ok hs _

/-- Settles O41. -/
theorem atomicResults : Obligations.AtomicResults := by
  unfold Obligations.AtomicResults
  intro s rd rs1 rs2 o asi hm
  dsimp only
  refine ⟨loadStoreByte_done hm rd (asiAssigned_dasi s), swapWord_done hm rd (asiAssigned_dasi s), fun hs hasi => ?_⟩
  rw [exec_ldstuba hs, exec_swapa hs]
  exact ⟨loadStoreByte_done hm rd (asiAssigned_of_mem hasi), swapWord_done hm rd (asiAssigned_of_mem hasi)⟩

/-! ### Misaligned addresses -/

theorem loadDouble_misaligned (s : State) (asi : Asi) {ea : Word} {rd : Reg} (hrd : isOdd rd = false) (h : ea.toNat % 8 ≠ 0) :
    traps (loadDouble s asi ea rd) .memAddressNotAligned s := traps_of_eq ((loadDouble_access s hrd).misaligned asi ea h)

theorem storeDouble_misaligned (s : State) (asi : Asi) {ea : Word} {rd : Reg} (hrd : isOdd rd = false) (h : ea.toNat % 8 ≠ 0) :
    traps (storeDouble s asi ea rd) .memAddressNotAligned s := traps_of_eq ((storeDouble_access s hrd).misaligned asi ea h)

/-- STDFQ, in supervisor mode with the FPU enabled (R233). -/
theorem exec_stdfq {s : State} (hs : s.sRead = true) (hef : s.efRead = true) (rd rs1 : Reg) (o : RegOrImm) :
    exec (.stdfq rd rs1 o) s = raiseIf (misaligned 8 (s.ea rs1 o)) .memAddressNotAligned s (fpTrap 4 s) :=
  (needSupervisor_ok hs).trans (needFpu_ok hef)

/-- The checks of EF done, a doubleword FP access tests the address first (R214, R231). -/
theorem loadPair_misaligned (s : State) (rd : Reg) (asi : Asi) {ea : Word} (h : ea.toNat % 8 ≠ 0) :
    loadPair s rd asi ea = raise .memAddressNotAligned s := by rw [loadPair, misaligned_eq_true.mpr h, raiseIf_true]

theorem storeFloatPair_misaligned (s : State) (rd : Reg) (asi : Asi) {ea : Word} (h : ea.toNat % 8 ≠ 0) :
    storeFloatPair s rd asi ea = raise .memAddressNotAligned s := by rw [storeFloatPair, misaligned_eq_true.mpr h, raiseIf_true]

/-- Settles O42. -/
theorem misalignedAccessTraps : Obligations.MisalignedAccessTraps := by
  unfold Obligations.MisalignedAccessTraps
  intro s rd rs1 rs2 o asi
  dsimp only
  refine ⟨?_, fun hrd h => ?_, fun hs => ⟨?_, fun hrd h => ?_⟩, fun hef => ⟨?_, fun hs h => ?_⟩⟩
  · refine List.forall_mem_cons.mpr ⟨(loadHalf_access s rd (BitVec.signExtend 32)).traps_misaligned (asi := s.dasi) rfl, ?_⟩
    refine List.forall_mem_cons.mpr ⟨(loadHalf_access s rd (BitVec.zeroExtend 32)).traps_misaligned (asi := s.dasi) rfl, ?_⟩
    refine List.forall_mem_cons.mpr ⟨(storeHalf_access s rd).traps_misaligned (asi := s.dasi) rfl, ?_⟩
    refine List.forall_mem_cons.mpr ⟨(loadWord_access s rd).traps_misaligned (asi := s.dasi) rfl, ?_⟩
    refine List.forall_mem_cons.mpr ⟨(storeWord_access s (s.r rd)).traps_misaligned (asi := s.dasi) rfl, ?_⟩
    exact List.forall_mem_cons.mpr ⟨(swapWord_access s rd).traps_misaligned (asi := s.dasi) rfl, List.forall_mem_nil _⟩
  · exact List.forall_mem_cons.mpr ⟨loadDouble_misaligned s s.dasi hrd h,
      List.forall_mem_cons.mpr ⟨storeDouble_misaligned s s.dasi hrd h, List.forall_mem_nil _⟩⟩
  · refine List.forall_mem_cons.mpr
      ⟨(loadHalf_access s rd (BitVec.signExtend 32)).traps_misaligned_alternate hs (asi := asi) rfl, ?_⟩
    refine List.forall_mem_cons.mpr
      ⟨(loadHalf_access s rd (BitVec.zeroExtend 32)).traps_misaligned_alternate hs (asi := asi) rfl, ?_⟩
    refine List.forall_mem_cons.mpr ⟨(storeHalf_access s rd).traps_misaligned_alternate hs (asi := asi) rfl, ?_⟩
    refine List.forall_mem_cons.mpr ⟨(loadWord_access s rd).traps_misaligned_alternate hs (asi := asi) rfl, ?_⟩
    refine List.forall_mem_cons.mpr ⟨(storeWord_access s (s.r rd)).traps_misaligned_alternate hs (asi := asi) rfl, ?_⟩
    exact List.forall_mem_cons.mpr ⟨(swapWord_access s rd).traps_misaligned_alternate hs (asi := asi) rfl, List.forall_mem_nil _⟩
  · exact List.forall_mem_cons.mpr ⟨(loadDouble_access s hrd).traps_misaligned_alternate hs (asi := asi) rfl h,
      List.forall_mem_cons.mpr ⟨(storeDouble_access s hrd).traps_misaligned_alternate hs (asi := asi) rfl h, List.forall_mem_nil _⟩⟩
  · refine List.forall_mem_cons.mpr ⟨(loadSingle_access s rd).traps_misaligned (exec_ldf hef rd rs1 o), ?_⟩
    refine List.forall_mem_cons.mpr ⟨(loadState_access s).traps_misaligned (exec_ldfsr hef rd rs1 o), ?_⟩
    refine List.forall_mem_cons.mpr ⟨(storeWord_access s _).traps_misaligned (exec_stf hef rd rs1 o), ?_⟩
    refine List.forall_mem_cons.mpr ⟨(storeWord_access s _).traps_misaligned (exec_stfsr hef rd rs1 o), ?_⟩
    refine List.forall_mem_cons.mpr
      ⟨fun h => traps_of_eq ((exec_lddf hef rd rs1 o).trans (loadPair_misaligned s rd _ h)), ?_⟩
    exact List.forall_mem_cons.mpr
      ⟨fun h => traps_of_eq ((exec_stdf hef rd rs1 o).trans (storeFloatPair_misaligned s rd _ h)), List.forall_mem_nil _⟩
  · rw [exec_stdfq hs hef, misaligned_eq_true.mpr h, raiseIf_true]
    exact raise_cases _ _

/-! ### Faulting and refused accesses -/

/-- A trap taken from one of two states, as a draw says. -/
theorem traps_raise_ite (b : Bool) (x : Trap) (u s : State) :
    traps (raise x (if b then u else s)) x s ∨ traps (raise x (if b then u else s)) x u := by
  cases b
  · exact .inl (raise_cases x s)
  · exact .inr (raise_cases x u)

/-- The faults of an atomic: of its read alone, or of its write (R113, log 28). -/
theorem atomic_faults {s : State} {n : Nat} {rd : Reg} {loaded : Word → Word} {done : Word → Result} {L : Asi → Word → Result}
    (A : IsAccess s n .atomic (trapAtomicRead s rd loaded)
      (fun asi ea => access s asi ea n .store (trapAtomic s rd (loaded ea)) (done ea)) L) {asi : Asi} {ea : Word}
    (ha : asiAssigned asi = true) (hal : ea.toNat % n = 0) (f : AccessFault) :
    (s.memFault asi ea n .atomic = some f → f ≠ .storeError → traps (L asi ea) (dataTrap f) s)
    ∧ (s.memFault asi ea n .atomic = some f ∧ f = .storeError
          ∨ s.memFault asi ea n .atomic = none ∧ s.memFault asi ea n .store = some f →
        traps (L asi ea) (dataTrap f) s ∨ traps (L asi ea) (dataTrap f) (s.setR rd (loaded ea))) := by
  refine ⟨fun hf hne => ?_, ?_⟩
  · rw [A.faults ha hal hf, trapAtomicRead, if_neg hne]
    exact raise_cases _ _
  · rintro (⟨hf, he⟩ | ⟨hread, hwrite⟩)
    · rw [A.faults ha hal hf, trapAtomicRead, if_pos he]
      exact traps_raise_ite _ _ _ _
    · rw [A.completes ha hal hread, access_fault ha hwrite]
      exact traps_raise_ite _ _ _ _

/-- `r` is the trap of the fault `f`, with nothing done. -/
def FaultsClean (s : State) (f : AccessFault) (r : Result) (_ea : Word) : Prop := traps r (dataTrap f) s

/-- `r` is the trap of the fault `f`, with nothing or `half` done. -/
def FaultsHalf (s : State) (f : AccessFault) (half : Word → State) (r : Result) (ea : Word) : Prop :=
  traps r (dataTrap f) s ∨ traps r (dataTrap f) (half ea)

/-- Settles O43: by kind of access. -/
theorem faultingAccessesTrapUnassignedAreRefused : Obligations.FaultingAccessesTrapUnassignedAreRefused := by
  unfold Obligations.FaultingAccessesTrapUnassignedAreRefused
  intro s rd rs1 rs2 o asi f
  have clean (asi : Asi) (ea : Word) : FaultsClean s f (trapOnly s asi ea f) ea := raise_cases _ _
  refine ⟨?_, ?_, fun hrd => ?_, fun hrd => ?_, fun hef => ⟨fun hal => ⟨fun hf => ⟨?_, ?_⟩, fun hf => ⟨?_, ?_⟩⟩,
    fun hrd hal => ⟨fun hf => ?_, fun hf => ?_⟩⟩, ?_, fun hal => ?_, fun hs => ?_, fun he hi hf => ?_⟩
  · refine List.forall_mem_cons.mpr
      ⟨(loadByte_access s rd (BitVec.signExtend 32)).both_fault (Q := FaultsClean s f) rfl rfl clean, ?_⟩
    refine List.forall_mem_cons.mpr
      ⟨(loadByte_access s rd (BitVec.zeroExtend 32)).both_fault (Q := FaultsClean s f) rfl rfl clean, ?_⟩
    refine List.forall_mem_cons.mpr
      ⟨(loadHalf_access s rd (BitVec.signExtend 32)).both_fault (Q := FaultsClean s f) rfl rfl clean, ?_⟩
    refine List.forall_mem_cons.mpr
      ⟨(loadHalf_access s rd (BitVec.zeroExtend 32)).both_fault (Q := FaultsClean s f) rfl rfl clean, ?_⟩
    exact List.forall_mem_cons.mpr
      ⟨(loadWord_access s rd).both_fault (Q := FaultsClean s f) rfl rfl clean, List.forall_mem_nil _⟩
  · refine List.forall_mem_cons.mpr ⟨(storeByte_access s rd).both_fault (Q := FaultsClean s f) rfl rfl clean, ?_⟩
    refine List.forall_mem_cons.mpr ⟨(storeHalf_access s rd).both_fault (Q := FaultsClean s f) rfl rfl clean, ?_⟩
    exact List.forall_mem_cons.mpr
      ⟨(storeWord_access s (s.r rd)).both_fault (Q := FaultsClean s f) rfl rfl clean, List.forall_mem_nil _⟩
  · exact (loadDouble_access s hrd).both_fault (Q := FaultsHalf s f fun ea => s.setR rd (s.word ea)) rfl rfl
      fun _ _ => traps_raise_ite _ _ _ _
  · exact (storeDouble_access s hrd).both_fault (Q := FaultsHalf s f fun ea => s.store ea (wordBytes (s.r rd))) rfl rfl
      fun _ _ => traps_raise_ite _ _ _ _
  · dsimp only
    rw [exec_ldf hef, (loadSingle_access s rd).faults (asiAssigned_dasi s) hal hf]
    exact traps_raise_ite _ _ _ _
  · dsimp only
    rw [exec_ldfsr hef, (loadState_access s).faults (asiAssigned_dasi s) hal hf]
    exact raise_cases _ _
  · dsimp only
    rw [exec_stf hef, (storeWord_access s _).faults (asiAssigned_dasi s) hal hf]
    exact raise_cases _ _
  · dsimp only
    rw [exec_stfsr hef, (storeWord_access s _).faults (asiAssigned_dasi s) hal hf]
    exact raise_cases _ _
  · dsimp only
    rw [exec_lddf hef, (loadPair_access s hrd).faults (asiAssigned_dasi s) hal hf]
    exact traps_raise_ite _ _ _ _
  · dsimp only
    rw [exec_stdf hef, (storeFloatPair_access s hrd).faults (asiAssigned_dasi s) hal hf]
    exact traps_raise_ite _ _ _ _
  · exact atomic_faults (loadStoreByte_access s rd) (asiAssigned_dasi s) (Nat.mod_one _) f
  · exact atomic_faults (swapWord_access s rd) (asiAssigned_dasi s) hal f
  · dsimp only
    rw [exec_ldstuba hs, exec_swapa hs]
    refine ⟨fun hasi => atomic_faults (loadStoreByte_access s rd) (asiAssigned_of_mem hasi) (Nat.mod_one _) f,
      fun hasi => (loadStoreByte_access s rd).refused hasi (Nat.mod_one _), fun hal => ⟨fun hasi => ?_, fun hasi => ?_⟩⟩
    · exact atomic_faults (swapWord_access s rd) (asiAssigned_of_mem hasi) hal f
    · exact (swapWord_access s rd).refused hasi hal
  · rw [Cycle.step_of_not_interrupted he hi, Cycle.fetchExecute_of_fault hf]
    cases f <;> rfl

/-! ### FLUSH and its countdowns -/

theorem exec_flush (s : State) (rs1 : Reg) (o : RegOrImm) : exec (.flush rs1 o) s = .next (s.flush (s.ea rs1 o)) :=
  reserved_ignored _ _

/-- The doubleword a FLUSH names: its countdown starts if it was stored to. -/
theorem flushFind_flushAfter_same (l : List (Nat × FlushStatus)) (d : Nat) : flushFind (flushAfter l (flushAge l) d) d =
    if (flushFind l d).isSome then some (.counting Config.flushLatency) else none := by
  unfold flushAfter
  cases h : flushFind l d with
  | none => exact Laws.flushFind_flushAge_none h
  | some f => exact (Laws.flushFind_flushSet d d _).trans (if_pos rfl)

/-- Every other doubleword ages as after any instruction. -/
theorem flushFind_flushAfter_other (l aged : List (Nat × FlushStatus)) {d e : Nat} (he : e ≠ d) :
    flushFind (flushAfter l aged d) e = flushFind aged e := by
  unfold flushAfter
  cases flushFind l d with
  | none => rfl
  | some f => exact (Laws.flushFind_flushSet d e _).trans (if_neg he)

theorem flushFind_iterate_none {l : List (Nat × FlushStatus)} {d : Nat} (h : flushFind l d = none) (j : Nat) :
    flushFind (flushAge^[j] l) d = none := by
  induction j generalizing l with
  | zero => exact h
  | succ j ih => exact ih (Laws.flushFind_flushAge_none h)

theorem flushFind_iterate_dirty {l : List (Nat × FlushStatus)} {d : Nat} (h : flushFind l d = some .dirty) (j : Nat) :
    flushFind (flushAge^[j] l) d = some .dirty := by
  induction j generalizing l with
  | zero => exact h
  | succ j ih => exact ih (Laws.flushFind_flushAge_dirty h)

theorem counting_pos {l : List (Nat × FlushStatus)} (hl : flushWf l) {d k : Nat} (h : flushFind l d = some (.counting k)) :
    0 < k := by
  induction l with
  | nil => cases h
  | cons x l ih =>
    obtain ⟨b, f⟩ := x
    obtain ⟨_, hf, _, hwf⟩ := hl
    rw [flushFind] at h
    split at h
    · exact (hf k (Option.some.inj h)).1
    · exact ih hwf h

/-- A countdown after `j` instructions. -/
theorem flushFind_iterate_counting {l : List (Nat × FlushStatus)} (hl : flushWf l) {d k : Nat}
    (h : flushFind l d = some (.counting k)) (j : Nat) :
    flushFind (flushAge^[j] l) d = if j < k then some (.counting (k - j)) else none := by
  have hk := counting_pos hl h
  induction j generalizing l k with
  | zero => rw [if_pos hk]; exact h
  | succ j ih =>
    have hage := Laws.flushFind_flushAge d hl
    simp only [h] at hage
    rw [Function.iterate_succ_apply]
    by_cases hone : 1 < k
    · rw [if_pos hone] at hage
      rw [ih (Laws.flushWf_flushAge hl) hage (by omega), Nat.sub_sub, Nat.add_comm 1 j]
      exact ite_congr (propext (by omega)) (fun _ => rfl) (fun _ => rfl)
    · rw [if_neg hone] at hage
      rw [flushFind_iterate_none hage, if_neg (by omega)]

/-- Settles O51. -/
theorem flushCompletes : Obligations.FlushCompletes := by
  unfold Obligations.FlushCompletes
  refine ⟨fun s rs1 o => ?_, fun l d hl j => ?_, fun s he hi hf hstale => ?_⟩
  · exact ⟨_, exec_flush s rs1 o, ⟨rfl, rfl⟩, regsKept_congr rfl rfl, rfl, rfl, memKept_of_eq rfl, fpuKept_of_eq rfl rfl,
      ⟨rfl, rfl, rfl, rfl, rfl, rfl⟩, rfl, flushFind_flushAfter_same _ _, fun e he => flushFind_flushAfter_other _ _ he⟩
  · cases h : flushFind l d with
    | none => exact flushFind_iterate_none h j
    | some f =>
      cases f with
      | dirty => exact flushFind_iterate_dirty h j
      | counting k => exact flushFind_iterate_counting hl h j
  · rw [Cycle.step_of_not_interrupted he hi, Cycle.fetchExecute_of_no_fault hf, Cycle.fetchedWord_stale hstale]

/-! ### rd = 0 -/

/-- Writing r[0] changes no r register. -/
theorem regsKept_of_writesReg_zero {s t : State} {w : Nat} {v : Word} (h : writesReg s t w 0 v) : regsKept s t := by
  intro u j
  by_cases hj : sameReg w 0 u j
  · obtain rfl : 0 = j := by simpa [sameReg] using hj
    exact (State.rw_zero t u).trans (State.rw_zero s u).symm
  · exact h.2 u j hj

/-- Settles O8. -/
theorem registerZeroIsConstant : Obligations.RegisterZeroIsConstant := by
  unfold Obligations.RegisterZeroIsConstant
  intro s rs1 o
  refine ⟨fun w v => ⟨State.rw_zero s w, State.setRw_zero s w v⟩, ?_, fun hal hf0 hf1 hm => ?_, fun hal => ?_, fun h => ?_⟩
  · obtain ⟨t, ht, hseq, hreg, hpsr, hy, _⟩ := Integer.finish_setIcc_setY_spec s 0
      (lowWord (unsignedProduct (s.r rs1) (s.op2 o))) (logicIcc (lowWord (unsignedProduct (s.r rs1) (s.op2 o))))
      (highWord (unsignedProduct (s.r rs1) (s.op2 o)))
    exact ⟨t, ht, regsKept_of_writesReg_zero hreg, hpsr, hy, hseq.1⟩
  · obtain ⟨t, ht, hreg, hword, _⟩ := swapWord_done hm 0 (asiAssigned_dasi s) ⟨hf0, hf1⟩ hal
    exact ⟨t, ht, regsKept_of_writesReg_zero hreg, hword.trans (State.rw_zero s _)⟩
  · obtain ⟨t, ht, _, hnpc, hreg, _⟩ := Transfers.jmpl_spec s 0 rs1 o hal
    exact ⟨t, ht, regsKept_of_writesReg_zero hreg, hnpc⟩
  · exact (loadHalf_access s 0 (BitVec.zeroExtend 32)).traps_misaligned (asi := s.dasi) rfl h

end Sys2Proof.Proofs.LoadStore

end

section
/-! Floating-point operate: every FPop is its checks and then one completion, so the enable, the register check, the completion and
the IEEE_754_exception trap are each proved once for the 32 FPop1 instructions and once for the six compares. -/

set_option Elab.async false

namespace Sys2Proof.Proofs.FloatingPoint
open Sys2Proof.Machine Sys2Proof.Proofs.Step Sys2Proof.Proofs.Accesses Sys2Proof.Proofs.Enables Sys2Proof.Proofs.LoadStore

/-! ### The checks of R540 and the completion of R543 -/

section
variable {s : State} (hef : s.efRead = true)
include hef

theorem fpChecks_ok (opf : BitVec 9) (k : Result) : fpChecks s opf false k = k := by
  rw [fpChecks, needFpu_ok hef]; rfl

theorem fpChecks_misaligned (opf : BitVec 9) (k : Result) :
    fpChecks s opf true k = fpTrap 6 s := by
  rw [fpChecks, needFpu_ok hef]; rfl

end

theorem fpComplete_done {s : State} {exc : FpExc} (h : exc &&& s.fsr.tem = 0) (done : State → Result) :
    fpComplete s exc done = done { s with fsr := s.fsr.completed exc } := if_neg (fun hne => hne h)

theorem fpComplete_trap {s : State} {exc : FpExc} (h : exc &&& s.fsr.tem ≠ 0) (done : State → Result) :
    fpComplete s exc done = raise .fpException { s with fsr := s.fsr.trapped exc } := if_pos h

/-- `oneBit` picks the most significant set bit (R543). -/
theorem oneBit_spec : ∀ m : FpExc, m ≠ 0 →
    oneBit m ∈ [excNV, excOF, excUF, excDZ, excNX] ∧ oneBit m &&& m ≠ 0 ∧ m.toNat < 2 * (oneBit m).toNat := by decide

theorem oneBit_of_subset_NV : ∀ m : FpExc, m &&& excNV = m → m ≠ 0 → oneBit m = excNV := by decide

/-! ### FPop1 -/

/-- What an FPop1 does after its checks (R540, R543). -/
def fpopBody (s : State) (d : FpopSpec) : Result :=
  fpComplete s (s.nonstandard d.allowed d.result).exc
    (fun t => finish (t.setFp d.dst d.rd (s.nonstandard d.allowed d.result).bits))

/-- `i` runs as the FPop1 `d`. -/
def RunsFpop (s : State) (i : Instr) (d : FpopSpec) : Prop :=
  ∃ opf, exec i s = fpChecks s opf d.misaligned (fpopBody s d)

theorem runsFpop_unary {s : State} {i : Instr} {opf : BitVec 9} {fmt dst : FpFormat} {rd rs2 : Reg} {allowed : FpExc}
    {f : NanSource → FpResult} {d : FpopSpec} (hd : unarySpec s opf fmt dst rd rs2 allowed f = some d)
    (hi : exec i s = fpUnary s opf fmt dst rd rs2 allowed f) : RunsFpop s i d := by
  obtain rfl := Option.some.inj hd
  exact ⟨opf, hi⟩

theorem runsFpop_binary {s : State} {i : Instr} {opf : BitVec 9} {fmt dst : FpFormat} {rd rs1 rs2 : Reg} {allowed : FpExc}
    {f : NanSource → FpResult} {d : FpopSpec} (hd : binarySpec s opf fmt dst rd rs1 rs2 allowed f = some d)
    (hi : exec i s = fpBinary s opf fmt dst rd rs1 rs2 allowed f) : RunsFpop s i d := by
  obtain rfl := Option.some.inj hd
  exact ⟨opf, hi⟩

/-- The table `fpopSpec` against the model, row by row. -/
theorem runsFpop_of_spec {s : State} {i : Instr} {d : FpopSpec} (h : fpopSpec s i = some d) : RunsFpop s i d := by
  unfold fpopSpec at h
  dsimp only at h
  split at h
  case h_33 => cases h
  iterate 18 · exact runsFpop_unary h rfl
  all_goals exact runsFpop_binary h rfl

/-- Settles O45: every floating-point instruction is `needFpu` first. -/
theorem fpuDisabledTraps : Obligations.FpuDisabledTraps := by
  unfold Obligations.FpuDisabledTraps
  intro s rd rs1 rs2 o a d hef
  refine ⟨?_, fun i hi => ?_, fun hs => traps_of_eq ((needSupervisor_ok hs).trans (needFpu_trap hef))⟩
  · iterate 28 refine List.forall_mem_cons.mpr ⟨traps_needFpu hef _, ?_⟩
    exact List.forall_mem_nil _
  · obtain ⟨d, hd⟩ := Option.isSome_iff_exists.mp hi
    obtain ⟨opf, hexec⟩ := runsFpop_of_spec hd
    exact traps_of_eq (hexec.trans (needFpu_trap hef))

/-- An FPop1 with its checks passed. -/
theorem exec_fpop {s : State} {i : Instr} {d : FpopSpec} (h : fpopSpec s i = some d) (hef : s.efRead = true)
    (hd : d.misaligned = false) : exec i s = fpopBody s d := by
  obtain ⟨opf, hexec⟩ := runsFpop_of_spec h
  rw [hexec, hd, fpChecks_ok hef]

/-- Which f registers were kept is read off their bank before. -/
theorem writesFp_of_eq {s s' t : State} {fmt : FpFormat} {rd : Reg} {bits : Nat} (hf : s'.f = s.f) (h : writesFp s' t fmt rd bits) :
    writesFp s t fmt rd bits := by
  have hfr (i : Reg) : s'.fr i = s.fr i := by unfold State.fr; simp only [hf]
  cases fmt <;> simpa only [writesFp, hfr] using h

/-- Settles O52. -/
theorem fpopCompletes : Obligations.FpopCompletes := by
  unfold Obligations.FpopCompletes
  intro s i d h hef hd r hexc
  have hr : s.nonstandard d.allowed d.result = r := rfl
  clear_value r
  subst hr
  rw [exec_fpop h hef hd, fpopBody, fpComplete_done hexc]
  exact ⟨_, rfl, sequential_finish _ (by simp), writesFp_congr rfl (writesFp_of_eq rfl (setFp_spec _ d.dst d.rd _)), by simp; rfl,
    fpopFrame_of_eq (by simp) (by simp) (by simp) (by simp) (by simp) (by simp [systemKept]), by simp⟩

/-- Settles O54. -/
theorem fpopExceptionTraps : Obligations.FpopExceptionTraps := by
  unfold Obligations.FpopExceptionTraps
  intro s i d h hef hd
  have hres : (if s.fsr.ns then Config.freeNsExc s.freeCount &&& d.allowed else d.result.exc)
      = (s.nonstandard d.allowed d.result).exc := by
    rw [State.nonstandard, apply_ite FpResult.exc]
  dsimp only
  rw [hres, exec_fpop h hef hd, fpopBody]
  intro hexc
  obtain ⟨hmem, hbit, htop⟩ := oneBit_spec _ hexc
  exact ⟨_, hmem, hbit, htop, traps_of_eq (fpComplete_trap hexc _)⟩

/-! ### Register numbers and STDFQ -/

theorem fpMisaligned_double_iff (r : Reg) : fpMisaligned .double r = true ↔ r.toNat % 2 ≠ 0 := by revert r; decide
theorem fpMisaligned_quad_iff (r : Reg) : fpMisaligned .quad r = true ↔ r.toNat % 4 ≠ 0 := by revert r; decide

theorem isOdd_iff (r : Reg) : isOdd r = true ↔ r.toNat % 2 ≠ 0 := by revert r; decide

theorem fpCompareOp_misaligned {s : State} (hef : s.efRead = true) {opf : BitVec 9}
    {fmt : FpFormat} {rs1 rs2 : Reg} (h : fpMisaligned fmt rs1 = true ∨ fpMisaligned fmt rs2 = true) (signal : Bool) :
    fpCompareOp s opf fmt rs1 rs2 signal = fpTrap 6 s := by
  rw [fpCompareOp, (Bool.or_eq_true _ _).mpr h]
  exact fpChecks_misaligned hef opf _

/-- An odd register number of a doubleword FP load or store to an aligned address (R214, R231). -/
theorem loadPair_odd (s : State) {rd : Reg} (hrd : isOdd rd = true) (asi : Asi) {ea : Word} (h : ea.toNat % 8 = 0) :
    loadPair s rd asi ea = fpTrap 6 s := by
  rw [loadPair, misaligned_eq_false.mpr h, raiseIf_false, fpRegister, fpMisaligned_double, hrd]; rfl

theorem storeFloatPair_odd (s : State) {rd : Reg} (hrd : isOdd rd = true) (asi : Asi) {ea : Word} (h : ea.toNat % 8 = 0) :
    storeFloatPair s rd asi ea = fpTrap 6 s := by
  rw [storeFloatPair, misaligned_eq_false.mpr h, raiseIf_false, fpRegister, fpMisaligned_double, hrd]; rfl

/-- Settles O55. -/
theorem fpRegisterAndQueueChecksTrap : Obligations.FpRegisterAndQueueChecksTrap := by
  unfold Obligations.FpRegisterAndQueueChecksTrap
  intro s rd rs1 rs2 o hef
  dsimp only
  refine ⟨fun i d h hd => ?_, fun h => ?_, fun h => ?_, fun hrd hal => ?_, fun hs hal => ?_⟩
  · obtain ⟨opf, hexec⟩ := runsFpop_of_spec h
    rw [hexec, hd, fpChecks_misaligned hef]
    exact raise_cases _ _
  · have hreg := h.imp (fpMisaligned_double_iff rs1).mpr (fpMisaligned_double_iff rs2).mpr
    exact List.forall_mem_cons.mpr ⟨traps_of_eq (fpCompareOp_misaligned hef (opf := 0x052) hreg false),
      List.forall_mem_cons.mpr ⟨traps_of_eq (fpCompareOp_misaligned hef (opf := 0x056) hreg true),
        List.forall_mem_nil _⟩⟩
  · have hreg := h.imp (fpMisaligned_quad_iff rs1).mpr (fpMisaligned_quad_iff rs2).mpr
    exact List.forall_mem_cons.mpr ⟨traps_of_eq (fpCompareOp_misaligned hef (opf := 0x053) hreg false),
      List.forall_mem_cons.mpr ⟨traps_of_eq (fpCompareOp_misaligned hef (opf := 0x057) hreg true),
        List.forall_mem_nil _⟩⟩
  · have hodd := (isOdd_iff rd).mpr hrd
    exact List.forall_mem_cons.mpr ⟨traps_of_eq ((exec_lddf hef rd rs1 o).trans (loadPair_odd s hodd _ hal)),
      List.forall_mem_cons.mpr ⟨traps_of_eq ((exec_stdf hef rd rs1 o).trans (storeFloatPair_odd s hodd _ hal)),
        List.forall_mem_nil _⟩⟩
  · rw [exec_stdfq hs hef, misaligned_eq_false.mpr hal]
    exact raise_cases _ _

/-! ### The compares -/

/-- fcc as a compare writes it: the relation, or, with FSR.NS = 1, free (R67, R594). -/
def compareFcc (s : State) (rel : FpRelation) : BitVec 2 :=
  if s.fsr.ns then BitVec.ofNat 2 (Config.freeNsResult s.freeCount) else rel.fcc

/-- The exceptions of a compare: NV for a signaling NaN, and for a quiet one in FCMPE (R594). -/
def compareExc (s : State) (rel : FpRelation) (signal : Bool) : FpExc :=
  if s.fsr.ns then Config.freeNsExc s.freeCount &&& excNV else if rel.snan || (signal && rel.qnan) then excNV else 0

theorem nonstandard_fcc (s : State) (rel : FpRelation) (signal : Bool) :
    BitVec.ofNat 2 (s.nonstandard excNV (rel.result signal)).bits = compareFcc s rel := by
  unfold State.nonstandard compareFcc
  split
  · rfl
  · simp [FpRelation.result]

theorem nonstandard_compareExc (s : State) (rel : FpRelation) (signal : Bool) :
    (s.nonstandard excNV (rel.result signal)).exc = compareExc s rel signal := by
  unfold State.nonstandard compareExc
  split <;> rfl

/-- A compare raises nothing but NV. -/
theorem compareExc_subset (s : State) (rel : FpRelation) (signal : Bool) (tem : FpExc) :
    (compareExc s rel signal &&& tem) &&& excNV = compareExc s rel signal &&& tem := by
  have h : compareExc s rel signal &&& excNV = compareExc s rel signal := by
    unfold compareExc
    split
    · rw [BitVec.and_assoc, BitVec.and_self]
    · split <;> rfl
  rw [BitVec.and_assoc, BitVec.and_comm tem, ← BitVec.and_assoc, h]

/-- What every compare does (R594), its checks passed. -/
theorem compare_spec {s : State} (hef : s.efRead = true) {opf : BitVec 9}
    (fmt : FpFormat) (rs1 rs2 : Reg) (signal : Bool) (h1 : fpMisaligned fmt rs1 = false) (h2 : fpMisaligned fmt rs2 = false) :
    let rel := fpCompare fmt (s.fpOperand fmt rs1) (s.fpOperand fmt rs2)
    let exc := compareExc s rel signal
    (exc &&& s.fsr.tem = 0 → ∃ t, fpCompareOp s opf fmt rs1 rs2 signal = .next t ∧ sequential s t ∧ fpKept s t ∧ fpopFrame s t
        ∧ t.fsr = { s.fsr with fcc := compareFcc s rel, ftt := 0, cexc := exc, aexc := s.fsr.aexc ||| exc }
        ∧ t.haz = { s.haz.age with fpop2Prev := true })
    ∧ (exc &&& s.fsr.tem ≠ 0 → traps (fpCompareOp s opf fmt rs1 rs2 signal) .fpException
        { s with fsr := { s.fsr with ftt := 1, cexc := excNV } }) := by
  intro rel exc
  have hrun : fpCompareOp s opf fmt rs1 rs2 signal =
      fpComplete s exc (fun t => .next (t.setFcc (compareFcc s rel)).retire.advance.markFpop2) := by
    rw [fpCompareOp, h1, h2, Bool.or_self, fpChecks_ok hef]
    dsimp only
    rw [nonstandard_compareExc, nonstandard_fcc]
  rw [hrun]
  refine ⟨fun hexc => ?_, fun hexc => ?_⟩
  · rw [fpComplete_done hexc]
    exact ⟨_, rfl, ⟨rfl, rfl⟩, fun _ => rfl, fpopFrame_of_eq rfl rfl rfl rfl rfl ⟨rfl, rfl, rfl, rfl, rfl, rfl⟩, rfl, rfl⟩
  · rw [fpComplete_trap hexc, Fsr.trapped, oneBit_of_subset_NV _ (compareExc_subset ..) hexc]
    exact raise_cases _ _

end Sys2Proof.Proofs.FloatingPoint

end

section
/-! The arithmetic of the FPops against the reals: what operand bits stand for, and that each operation hands `fpRound` a significand
that stands for the exact result. -/

set_option Elab.async false

namespace Sys2Proof.Proofs.Numerics
open Sys2Proof.Machine

/-! ### Operand bits -/

/-- Sign, exponent and fraction as a number. -/
theorem toNat_fields {k p : Nat} (sign : Bool) (e : BitVec k) (g : BitVec p) : (BitVec.ofBool sign ++ e ++ g).toNat =
    sign.toNat * 2 ^ (p + k) + (e.toNat * 2 ^ p + g.toNat) := by
  have append_toNat {m n : Nat} (x : BitVec m) (y : BitVec n) : (x ++ y).toNat = x.toNat * 2 ^ n + y.toNat := by
    rw [BitVec.toNat_append, ← Nat.shiftLeft_add_eq_or_of_lt y.isLt, Nat.shiftLeft_eq]
  rw [append_toNat, append_toNat, BitVec.toNat_ofBool, pow_add]
  ring

/-- The value of operand bits, for every format (R541). -/
theorem fpUnpack_fields (fmt : FpFormat) (sign : Bool) (e : BitVec fmt.exponentBits) (g : BitVec fmt.fractionBits)
    {ones : BitVec fmt.exponentBits} (hones : ones = BitVec.allOnes _) {low offset : ℤ}
    (hlow : 1 - (fmt.bias : ℤ) - fmt.fractionBits = low) (hoffset : (fmt.bias : ℤ) + fmt.fractionBits = offset) :
    fpUnpack fmt (BitVec.ofBool sign ++ e ++ g).toNat =
      if e = ones then (if g = 0 then .infinity sign else .nan (!g.msb))
      else if e = 0 then .finite sign g.toNat low
      else .finite sign (2 ^ fmt.fractionBits + g.toNat) ((e.toNat : ℤ) - offset) := by
  have hmax : fmt.maxExponent = 2 ^ fmt.exponentBits - 1 := by rw [FpFormat.maxExponent, Nat.shiftLeft_eq, Nat.one_mul]
  have he : e.toNat = fmt.maxExponent ↔ e = BitVec.allOnes _ := by rw [hmax, ← BitVec.toNat_allOnes, BitVec.toNat_inj]
  have he0 : e.toNat = 0 ↔ e = 0 := BitVec.toNat_inj (y := 0#fmt.exponentBits)
  have hg0 : g.toNat = 0 ↔ g = 0 := BitVec.toNat_inj (y := 0#fmt.fractionBits)
  have hmsb : ((g.toNat >>> (fmt.fractionBits - 1)) % 2 == 0) = !g.msb := by
    rw [BitVec.msb_eq_getLsbD_last, BitVec.getLsbD, Nat.testBit_eq_decide_div_mod_eq, Nat.shiftRight_eq_div_pow]
    rcases Nat.mod_two_eq_zero_or_one (g.toNat / 2 ^ (fmt.fractionBits - 1)) with h | h <;> simp [h]
  rw [toNat_fields, ← fpSign_eq, fpUnpack_sign_add fmt sign (by have := e.isLt; omega) g.isLt, hmsb, Nat.add_comm g.toNat,
    hones, ← hlow, ← hoffset]
  simp only [he, he0, hg0, sub_sub]

/-! ### Real values -/

theorem isReal_iff {x : FpValue} {v : ℝ} :
    x.IsReal v ↔ ∃ sign m e, x = .finite sign m e ∧ v = (if sign then -1 else 1) * ((m : ℝ) * 2 ^ e) := by
  cases x with
  | nan b => simp [FpValue.IsReal]
  | infinity b => simp [FpValue.IsReal]
  | finite sign m e => exact ⟨fun h => ⟨sign, m, e, rfl, h⟩, fun ⟨_, _, _, heq, h⟩ => by cases heq; exact h⟩

theorem zpow_two_pos (e : ℤ) : (0 : ℝ) < 2 ^ e := zpow_pos (by norm_num) e

/-- A finite value in units of 2^lo. -/
theorem signed_shift_value (sign : Bool) (m : ℕ) {e lo : ℤ} (h : lo ≤ e) :
    ((signedSignificand sign (m <<< (e - lo).toNat) : ℤ) : ℝ) * 2 ^ lo = (if sign then -1 else 1) * ((m : ℝ) * 2 ^ e) := by
  rw [signedSignificand_value, mul_assoc, shiftLeft_value m h]

/-- A negated addend. -/
theorem sign_xor_value (sign flip : Bool) (x : ℝ) :
    (if (sign ^^ flip) = true then -1 else 1) * x = (if flip then -1 else 1) * ((if sign then -1 else 1) * x) := by
  cases sign <;> cases flip <;> simp

/-- The sum `fpAdd` forms, in units of the smaller exponent. -/
def alignedSum (flip sx : Bool) (mx : ℕ) (ex : ℤ) (sy : Bool) (my : ℕ) (ey : ℤ) : ℤ :=
  signedSignificand sx (mx <<< (ex - min ex ey).toNat) + signedSignificand (sy ^^ flip) (my <<< (ey - min ex ey).toNat)

theorem alignedSum_value (flip sx : Bool) (mx : ℕ) (ex : ℤ) (sy : Bool) (my : ℕ) (ey : ℤ) :
    (alignedSum flip sx mx ex sy my ey : ℝ) * 2 ^ min ex ey =
      (if sx then -1 else 1) * ((mx : ℝ) * 2 ^ ex) + (if flip then -1 else 1) * ((if sy then -1 else 1) * ((my : ℝ) * 2 ^ ey)) := by
  rw [alignedSum, Int.cast_add, add_mul, signed_shift_value _ _ (min_le_left _ _), signed_shift_value _ _ (min_le_right _ _),
    sign_xor_value]

section
variable {fmt dst : FpFormat} {rnd : BitVec 2} {ufm : Bool} {src : NanSource}

theorem fpAdd_finite {flip sx sy : Bool} {mx my : ℕ} {ex ey : ℤ} (hx : fpUnpack fmt src.x = .finite sx mx ex)
    (hy : fpUnpack fmt src.y = .finite sy my ey) : fpAdd fmt rnd ufm src flip =
      if alignedSum flip sx mx ex sy my ey = 0 then
        { bits := fpZero fmt (if sx = (sy ^^ flip) then sx else rnd == 3), exc := excNone }
      else fpRound fmt rnd ufm (decide (alignedSum flip sx mx ex sy my ey < 0)) (alignedSum flip sx mx ex sy my ey).natAbs
        (min ex ey) := by
  rw [fpAdd, hx, hy]
  rfl

theorem fpMul_finite {sx sy : Bool} {mx my : ℕ} {ex ey : ℤ} (hx : fpUnpack fmt src.x = .finite sx mx ex)
    (hy : fpUnpack fmt src.y = .finite sy my ey) :
    fpMul fmt dst rnd ufm src = fpRound dst rnd ufm (sx ^^ sy) (mx * my) (ex + ey) := by
  rw [fpMul, hx, hy]

/-- A difference as a sum, in the form of `alignedSum_value`. -/
theorem flipped_eq (flip : Bool) (a b : ℝ) : (if flip = true then a - b else a + b) = a + (if flip then -1 else 1) * b := by
  cases flip <;> simp [sub_eq_add_neg]

theorem fpAdd_roundsTo {flip : Bool} {a b : ℝ} (ha : (fpUnpack fmt src.x).IsReal a) (hb : (fpUnpack fmt src.y).IsReal b)
    (hc : (if flip then a - b else a + b) ≠ 0) :
    RoundsTo fmt rnd ufm (if flip then a - b else a + b) (fpAdd fmt rnd ufm src flip) := by
  obtain ⟨sx, mx, ex, hx, rfl⟩ := isReal_iff.mp ha
  obtain ⟨sy, my, ey, hy, rfl⟩ := isReal_iff.mp hb
  rw [flipped_eq, ← alignedSum_value] at hc ⊢
  have hsum : alignedSum flip sx mx ex sy my ey ≠ 0 := fun h => hc (by rw [h]; simp)
  rw [fpAdd_finite hx hy, if_neg hsum]
  exact fpRound_roundsTo_signed fmt rnd ufm _ _ hsum

/-- A product of signs. -/
theorem sign_mul_sign (sx sy : Bool) (u v : ℝ) :
    ((if sx then -1 else 1) * u) * ((if sy then -1 else 1) * v) = if (sx ^^ sy) = true then -(u * v) else u * v := by
  cases sx <;> cases sy <;> simp

theorem fpMul_roundsTo {a b : ℝ} (ha : (fpUnpack fmt src.x).IsReal a) (hb : (fpUnpack fmt src.y).IsReal b) (hc : a * b ≠ 0) :
    RoundsTo dst rnd ufm (a * b) (fpMul fmt dst rnd ufm src) := by
  obtain ⟨sx, mx, ex, hx, rfl⟩ := isReal_iff.mp ha
  obtain ⟨sy, my, ey, hy, rfl⟩ := isReal_iff.mp hb
  have hm : mx * my ≠ 0 := by
    rintro h
    rcases Nat.mul_eq_zero.mp h with h | h <;> simp [h] at hc
  have hu : (mx : ℝ) * 2 ^ ex * ((my : ℝ) * 2 ^ ey) = ((mx * my : ℕ) : ℝ) * 2 ^ (ex + ey) := by
    rw [zpow_add₀ (by norm_num)]; push_cast; ring
  rw [sign_mul_sign, hu, fpMul_finite hx hy]
  exact fpRound_roundsTo rnd ufm _ hm (standsFor_exact dst _ _)

theorem fpConvert_finite {sy : Bool} {my : ℕ} {ey : ℤ} (hy : fpUnpack fmt src.y = .finite sy my ey) :
    fpConvert fmt dst rnd ufm src = fpRound dst rnd ufm sy my ey := by
  rw [fpConvert, hy]

theorem fpConvert_roundsTo {b : ℝ} (hb : (fpUnpack fmt src.y).IsReal b) (hc : b ≠ 0) :
    RoundsTo dst rnd ufm b (fpConvert fmt dst rnd ufm src) := by
  obtain ⟨sy, my, ey, hy, rfl⟩ := isReal_iff.mp hb
  have hm : my ≠ 0 := fun h => hc (by simp [h])
  have hsign : (if sy then -1 else 1) * ((my : ℝ) * 2 ^ ey) = if sy = true then -((my : ℝ) * 2 ^ ey) else (my : ℝ) * 2 ^ ey := by
    cases sy <;> simp
  rw [hsign, fpConvert_finite hy]
  exact fpRound_roundsTo rnd ufm sy hm (standsFor_exact dst my ey)

end

/-! ### Quotient and root: an integer part and a sticky bit -/

/-- The integer part `q` of `x`, with its sticky bit, stands for `x` in units of 2^(e + 1). -/
theorem standsFor_integerPart (fmt : FpFormat) {q : ℕ} {e : ℤ} {x : ℝ} {exact : Bool} (hq : 2 ^ (fmt.fractionBits + 1) ≤ q)
    (h0 : (q : ℝ) ≤ x) (h1 : x < q + 1) (hs : exact = true ↔ x = q) :
    StandsFor fmt (2 * q + (if exact then 0 else 1)) e (x * 2 ^ (e + 1)) := by
  have hp := zpow_two_pos (e + 1)
  refine standsFor_sticky fmt q e _ exact hq ?_ ?_ ?_
  · exact mul_le_mul_of_nonneg_right h0 hp.le
  · exact mul_lt_mul_of_pos_right h1 hp
  · rw [hs, mul_left_inj' hp.ne']

/-- A quotient of naturals between its integer part and the next. -/
theorem div_bounds {d : ℕ} (hd : d ≠ 0) (n : ℕ) : ((n / d : ℕ) : ℝ) ≤ n / d ∧ (n : ℝ) / d < (n / d : ℕ) + 1
    ∧ (n % d = 0 ↔ (n : ℝ) / d = (n / d : ℕ)) := by
  have hpos : (0 : ℝ) < d := by exact_mod_cast Nat.pos_of_ne_zero hd
  refine ⟨Nat.cast_div_le, ?_, ?_⟩
  · rw [div_lt_iff₀ hpos, mul_comm]
    exact_mod_cast Nat.lt_mul_div_succ n (Nat.pos_of_ne_zero hd)
  · rw [div_eq_iff hpos.ne']
    constructor
    · intro h
      exact_mod_cast (Nat.div_mul_cancel (Nat.dvd_of_mod_eq_zero h)).symm
    · intro h
      exact Nat.mod_eq_zero_of_dvd (Dvd.intro_left _ (by exact_mod_cast h.symm))

/-- The significand `fpDiv` hands on stands for the quotient. -/
theorem standsFor_quotient (fmt : FpFormat) {mx my : ℕ} (hx : mx ≠ 0) (hy : my ≠ 0) (ex ey : ℤ) {k : ℕ}
    (hk : k = fmt.fractionBits + 4 + Nat.log2 my) :
    StandsFor fmt (2 * (mx <<< k / my) + (if mx <<< k % my = 0 then 0 else 1)) (ex - ey - k - 1)
      ((mx : ℝ) * 2 ^ ex / (my * 2 ^ ey)) := by
  obtain ⟨h0, h1, hs⟩ := div_bounds hy (mx <<< k)
  have hq : 2 ^ (fmt.fractionBits + 1) ≤ mx <<< k / my := by
    rw [Nat.le_div_iff_mul_le (Nat.pos_of_ne_zero hy), Nat.shiftLeft_eq, hk]
    calc 2 ^ (fmt.fractionBits + 1) * my ≤ 2 ^ (fmt.fractionBits + 1) * 2 ^ (Nat.log2 my + 1) :=
          Nat.mul_le_mul_left _ (lt_log2 hy).le
      _ = 2 ^ (fmt.fractionBits + 1 + (Nat.log2 my + 1)) := (pow_add ..).symm
      _ ≤ 2 ^ (fmt.fractionBits + 4 + Nat.log2 my) := Nat.pow_le_pow_right (by norm_num) (by omega)
      _ ≤ mx * 2 ^ (fmt.fractionBits + 4 + Nat.log2 my) := Nat.le_mul_of_pos_left _ (Nat.pos_of_ne_zero hx)
  have hu : (mx : ℝ) * 2 ^ ex / (my * 2 ^ ey) = ((mx <<< k : ℕ) : ℝ) / my * 2 ^ (ex - ey - k - 1 + 1) := by
    have hmy : (my : ℝ) ≠ 0 := by exact_mod_cast hy
    have hey := (zpow_two_pos ey).ne'
    rw [Nat.shiftLeft_eq, show ex - ey - k - 1 + 1 = ex - ey - (k : ℤ) by ring, zpow_sub₀ (by norm_num), zpow_sub₀ (by norm_num),
      zpow_natCast]
    push_cast
    field_simp
  rw [hu]
  simpa using standsFor_integerPart fmt (e := ex - ey - k - 1) (exact := decide (mx <<< k % my = 0)) hq h0 h1 (by simpa using hs)

/-- The integer root, against the real one. -/
theorem isqrt_bounds (n : ℕ) {r : ℕ} (hr : r = isqrtFrom (Nat.log2 n / 2 + 1) n 0) :
    (r : ℝ) ≤ Real.sqrt n ∧ Real.sqrt n < r + 1 ∧ (r * r = n ↔ Real.sqrt n = r) := by
  obtain ⟨h0, h1⟩ := isqrt_spec n
  rw [← hr] at h0 h1
  refine ⟨?_, ?_, ?_⟩
  · exact Real.le_sqrt_of_sq_le (by rw [sq]; exact_mod_cast h0)
  · rw [Real.sqrt_lt' (by positivity), sq]
    exact_mod_cast h1
  · rw [Real.sqrt_eq_iff_mul_self_eq (by positivity) (by positivity)]
    exact ⟨fun h => by exact_mod_cast h.symm, fun h => by exact_mod_cast h.symm⟩

/-- The significand `fpSqrt` hands on stands for the root, where the shift leaves an even exponent. -/
theorem standsFor_root (fmt : FpFormat) {m : ℕ} (hm : m ≠ 0) {e : ℤ} {k : ℕ} (hk : 2 * (fmt.fractionBits + 4) ≤ k)
    (heven : (e - k) % 2 = 0) {r : ℕ} (hr : r = isqrtFrom (Nat.log2 (m <<< k) / 2 + 1) (m <<< k) 0) :
    StandsFor fmt (2 * r + (if r * r = m <<< k then 0 else 1)) ((e - k) / 2 - 1) (Real.sqrt (m * 2 ^ e)) := by
  obtain ⟨h0, h1, hs⟩ := isqrt_bounds (m <<< k) hr
  have hq : 2 ^ (fmt.fractionBits + 1) ≤ r := by
    have hlt : m <<< k < (r + 1) * (r + 1) := by rw [hr]; exact (isqrt_spec _).2
    have hle : 2 ^ (fmt.fractionBits + 4) * 2 ^ (fmt.fractionBits + 4) ≤ m <<< k := by
      rw [← pow_add, Nat.shiftLeft_eq]
      exact (Nat.pow_le_pow_right (by norm_num) (by omega)).trans (Nat.le_mul_of_pos_left _ (Nat.pos_of_ne_zero hm))
    have hroot : 2 ^ (fmt.fractionBits + 4) < r + 1 := Nat.mul_self_lt_mul_self_iff.mp (hle.trans_lt hlt)
    have hmono : 2 ^ (fmt.fractionBits + 1) ≤ 2 ^ (fmt.fractionBits + 4) := Nat.pow_le_pow_right (by norm_num) (by omega)
    omega
  have hu : Real.sqrt (m * 2 ^ e) = Real.sqrt ((m <<< k : ℕ) : ℝ) * 2 ^ ((e - k) / 2 - 1 + 1) := by
    have hsq : (m : ℝ) * 2 ^ e = ((m <<< k : ℕ) : ℝ) * (2 ^ ((e - k) / 2)) ^ 2 := by
      rw [Nat.shiftLeft_eq, ← zpow_natCast, ← zpow_mul, show (e - k) / 2 * ((2 : ℕ) : ℤ) = e - k by push_cast; omega,
        zpow_sub₀ (by norm_num), zpow_natCast]
      push_cast
      field_simp
    rw [hsq, Real.sqrt_mul (by positivity), Real.sqrt_sq (zpow_two_pos _).le, sub_add_cancel]
  rw [hu]
  simpa using standsFor_integerPart fmt (e := (e - k) / 2 - 1) (exact := decide (r * r = m <<< k)) hq h0 h1 (by simpa using hs)

section
variable {fmt dst : FpFormat} {rnd : BitVec 2} {ufm : Bool} {src : NanSource}

theorem fpDiv_finite {sx sy : Bool} {mx my : ℕ} {ex ey : ℤ} (hx : fpUnpack fmt src.x = .finite sx mx ex)
    (hy : fpUnpack fmt src.y = .finite sy my ey) (hmy : my ≠ 0) {k : ℕ} (hk : k = fmt.fractionBits + 4 + Nat.log2 my) :
    fpDiv fmt rnd ufm src = fpRound fmt rnd ufm (sx ^^ sy)
      (2 * (mx <<< k / my) + (if mx <<< k % my = 0 then 0 else 1)) (ex - ey - k - 1) := by
  subst hk
  rw [fpDiv, hx, hy]
  exact if_neg hmy

/-- The significand of a sticky bit is not 0. -/
theorem standsFor_ne_zero {m : ℕ} {e : ℤ} {u : ℝ} (h : StandsFor fmt m e u) (hu : 0 < u) : m ≠ 0 := by
  rintro rfl
  have := (h.ge 0 (.inl ⟨0, rfl⟩)).mpr le_rfl
  simp only [Int.cast_zero, zero_mul] at this
  linarith

/-- A quotient of signs. -/
theorem sign_div_sign (sx sy : Bool) (u v : ℝ) :
    ((if sx then -1 else 1) * u) / ((if sy then -1 else 1) * v) = if (sx ^^ sy) = true then -(u / v) else u / v := by
  cases sx <;> cases sy <;> simp [neg_div, div_neg]

theorem fpDiv_roundsTo {a b : ℝ} (ha : (fpUnpack fmt src.x).IsReal a) (hb : (fpUnpack fmt src.y).IsReal b) (ha0 : a ≠ 0)
    (hb0 : b ≠ 0) : RoundsTo fmt rnd ufm (a / b) (fpDiv fmt rnd ufm src) := by
  obtain ⟨sx, mx, ex, hx, rfl⟩ := isReal_iff.mp ha
  obtain ⟨sy, my, ey, hy, rfl⟩ := isReal_iff.mp hb
  have hmx : mx ≠ 0 := fun h => ha0 (by simp [h])
  have hmy : my ≠ 0 := fun h => hb0 (by simp [h])
  have hfor := standsFor_quotient fmt hmx hmy ex ey rfl
  have hpos : 0 < (mx : ℝ) * 2 ^ ex / (my * 2 ^ ey) := by
    have := zpow_two_pos ex
    have := zpow_two_pos ey
    positivity
  rw [sign_div_sign, fpDiv_finite hx hy hmy rfl]
  exact fpRound_roundsTo rnd ufm _ (standsFor_ne_zero hfor hpos) hfor

theorem fpSqrt_finite {m : ℕ} {e : ℤ} (hy : fpUnpack fmt src.y = .finite false m e) (hm : m ≠ 0) :
    ∃ k : ℕ, 2 * (fmt.fractionBits + 4) ≤ k ∧ (e - k) % 2 = 0 ∧ ∃ r, r = isqrtFrom (Nat.log2 (m <<< k) / 2 + 1) (m <<< k) 0
      ∧ fpSqrt fmt rnd src = fpRound fmt rnd false false (2 * r + (if r * r = m <<< k then 0 else 1)) ((e - k) / 2 - 1) := by
  refine ⟨if (e - (2 * (fmt.fractionBits + 4) : ℕ)) % 2 = 0 then 2 * (fmt.fractionBits + 4) else 2 * (fmt.fractionBits + 4) + 1,
    ?_, ?_, _, rfl, ?_⟩
  · split <;> omega
  · split
    · assumption
    · push_cast at *
      omega
  · rw [fpSqrt, hy]
    exact if_neg hm

theorem fpSqrt_roundsTo {b : ℝ} (hb : (fpUnpack fmt src.y).IsReal b) (hpos : 0 < b) :
    RoundsTo fmt rnd false (Real.sqrt b) (fpSqrt fmt rnd src) := by
  obtain ⟨sy, my, ey, hy, rfl⟩ := isReal_iff.mp hb
  have hmy : my ≠ 0 := fun h => by simp [h] at hpos
  obtain rfl : sy = false := by
    by_contra hs
    have := zpow_two_pos ey
    have : 0 ≤ (my : ℝ) * 2 ^ ey := by positivity
    simp only [Bool.not_eq_false] at hs
    rw [hs] at hpos
    simp only [if_true] at hpos
    linarith
  obtain ⟨k, hk, heven, r, hr, hsqrt⟩ := fpSqrt_finite (rnd := rnd) hy hmy
  have hfor := standsFor_root fmt hmy hk heven hr
  simp only [Bool.false_eq_true, if_false, one_mul] at hpos ⊢
  rw [hsqrt]
  exact fpRound_roundsTo rnd false false (standsFor_ne_zero hfor (Real.sqrt_pos.mpr hpos)) hfor

/-! ### Conversions of integers -/

theorem fpFromInt_roundsTo {w : Word} (h : w ≠ 0) : RoundsTo fmt rnd false w.toInt (fpFromInt fmt rnd w) := by
  have hw : w.toInt ≠ 0 := fun h0 => h (BitVec.eq_of_toInt_eq h0)
  simpa [fpFromInt] using fpRound_roundsTo_signed fmt rnd false w.toInt 0 hw

theorem fpFromInt_zero : (fpFromInt fmt rnd 0).IsZero fmt false := fpRound_zero fmt rnd false false 0

end

/-- The integer part of a magnitude, and what is cut off. -/
theorem whole_spec (m : ℕ) (e : ℤ) :
    ((if 0 ≤ e then m <<< e.toNat else m >>> (-e).toNat : ℕ) : ℤ) = ⌊(m : ℝ) * 2 ^ e⌋
    ∧ ((!decide (0 ≤ e) && m % (1 <<< (-e).toNat) != 0) = false ↔ ((⌊(m : ℝ) * 2 ^ e⌋ : ℤ) : ℝ) = m * 2 ^ e) := by
  by_cases he : 0 ≤ e
  · obtain ⟨k, rfl⟩ := Int.eq_ofNat_of_zero_le he
    have hint : (m : ℝ) * 2 ^ ((k : ℕ) : ℤ) = ((m * 2 ^ k : ℕ) : ℝ) := by push_cast; rw [zpow_natCast]
    rw [hint, Int.floor_natCast, if_pos he, decide_eq_true he]
    simp [Nat.shiftLeft_eq]
  · obtain ⟨k, hk⟩ := Int.eq_ofNat_of_zero_le (show 0 ≤ -e by omega)
    obtain rfl : e = -(k : ℤ) := by omega
    obtain ⟨h0, h1, hs⟩ := div_bounds (Nat.two_pow_pos k).ne' m
    have hdiv : (m : ℝ) * 2 ^ (-(k : ℤ)) = (m : ℝ) / ((2 ^ k : ℕ) : ℝ) := by
      rw [zpow_neg, zpow_natCast]; push_cast; rfl
    have hfloor : ⌊(m : ℝ) * 2 ^ (-(k : ℤ))⌋ = ((m / 2 ^ k : ℕ) : ℤ) := by
      rw [hdiv]
      exact Int.floor_eq_iff.mpr ⟨by exact_mod_cast h0, by exact_mod_cast h1⟩
    rw [hfloor, if_neg he, decide_eq_false he, hdiv]
    refine ⟨by simp [Nat.shiftRight_eq_div_pow], ?_⟩
    simp only [neg_neg, Int.toNat_natCast, Nat.shiftLeft_eq, Nat.one_mul, Bool.not_false, Bool.true_and, bne_eq_false_iff_eq]
    rw [hs, eq_comm]
    norm_cast

/-- The integer `fpToInt` forms is the truncation `n`, and it is inexact where the operand is not `n`. -/
theorem truncation_spec {sign : Bool} {m : ℕ} {e : ℤ} {a : ℝ} {n : ℤ} (ha : a = (if sign then -1 else 1) * ((m : ℝ) * 2 ^ e))
    (h0 : 0 ≤ a → n = ⌊a⌋) (h1 : a ≤ 0 → n = ⌈a⌉) :
    signedSignificand sign (if 0 ≤ e then m <<< e.toNat else m >>> (-e).toNat) = n
    ∧ ((!decide (0 ≤ e) && m % (1 <<< (-e).toNat) != 0) = false ↔ a = n) := by
  obtain ⟨hwhole, hexact⟩ := whole_spec m e
  have hu : 0 ≤ (m : ℝ) * 2 ^ e := by have := zpow_two_pos e; positivity
  rw [signedSignificand, hwhole, hexact]
  cases sign with
  | false =>
    simp only [Bool.false_eq_true, if_false, one_mul] at ha ⊢
    subst ha
    rw [h0 hu]
    exact ⟨rfl, eq_comm⟩
  | true =>
    simp only [if_true, neg_one_mul] at ha ⊢
    subst ha
    rw [h1 (neg_nonpos.mpr hu), Int.ceil_neg]
    refine ⟨rfl, ?_⟩
    push_cast
    rw [neg_inj, eq_comm]

section
variable {fmt : FpFormat} {opf : BitVec 9} {x : ℕ}

theorem fpToInt_finite {sign : Bool} {m : ℕ} {e : ℤ} (hx : fpUnpack fmt x = .finite sign m e) {v : ℤ} {inexact : Bool}
    (hv : signedSignificand sign (if 0 ≤ e then m <<< e.toNat else m >>> (-e).toNat) = v)
    (hi : (!decide (0 ≤ e) && m % (1 <<< (-e).toNat) != 0) = inexact) : fpToInt fmt opf x =
      if v < -0x80000000 ∨ 0x7FFFFFFF < v then ⟨(Config.invalidInteger opf x).toNat, excNV⟩
      else ⟨(BitVec.ofInt 32 v).toNat, if inexact then excNX else excNone⟩ := by
  subst hv hi
  rw [fpToInt, hx]

/-- Conversion to an integer truncates (R585). -/
theorem fpToInt_truncates {a : ℝ} {n : ℤ} (ha : (fpUnpack fmt x).IsReal a) (h0 : 0 ≤ a → n = ⌊a⌋) (h1 : a ≤ 0 → n = ⌈a⌉) :
    (-2 ^ 31 ≤ n → n < 2 ^ 31 → (a = n → fpToInt fmt opf x = ⟨(BitVec.ofInt 32 n).toNat, excNone⟩)
      ∧ (a ≠ n → fpToInt fmt opf x = ⟨(BitVec.ofInt 32 n).toNat, excNX⟩))
    ∧ (n < -2 ^ 31 ∨ 2 ^ 31 ≤ n → (fpToInt fmt opf x).exc = excNV) := by
  obtain ⟨sign, m, e, hx, hval⟩ := isReal_iff.mp ha
  obtain ⟨hv, hexact⟩ := truncation_spec hval h0 h1
  refine ⟨fun hlo hhi => ⟨fun heq => ?_, fun hne => ?_⟩, fun hout => ?_⟩
  · rw [fpToInt_finite hx hv (hexact.mpr heq), if_neg (by omega)]
    rfl
  · rw [fpToInt_finite hx hv (Bool.eq_true_of_not_eq_false (mt hexact.mp hne)), if_neg (by omega)]
    rfl
  · rw [fpToInt_finite hx hv rfl, if_pos (by omega)]

theorem fpToInt_not_real (h : ∀ a : ℝ, ¬ (fpUnpack fmt x).IsReal a) : (fpToInt fmt opf x).exc = excNV := by
  cases hx : fpUnpack fmt x with
  | nan b => rw [fpToInt, hx]
  | infinity b => rw [fpToInt, hx]
  | finite sign m e => exact absurd (isReal_iff.mpr ⟨sign, m, e, hx, rfl⟩) (h _)

end

/-! ### An integer in double format is exact -/

/-- Rounding an integer to an integer does nothing. -/
theorem roundsToInt_intCast {rnd : BitVec 2} {k n : ℤ} (h : RoundsToInt rnd k n) : n = k := by
  unfold RoundsToInt at h
  split at h
  · have hlt : |((k - n : ℤ) : ℝ)| < 1 := by push_cast; linarith [h.1]
    have : |k - n| < 1 := by exact_mod_cast hlt
    have := Int.abs_lt_one_iff.mp this
    omega
  · obtain ⟨hfloor, hceil⟩ := h
    rcases le_total (0 : ℝ) k with hk | hk
    · rw [hfloor hk, Int.floor_intCast]
    · rw [hceil hk, Int.ceil_intCast]
  · rw [h, Int.ceil_intCast]
  · rw [h, Int.floor_intCast]

/-- The binade of a nonzero integer word. -/
theorem binade_of_word {w : Word} (hw : w ≠ 0) {E : ℤ} (h0 : (2 : ℝ) ^ E ≤ |(w.toInt : ℝ)|) (h1 : |(w.toInt : ℝ)| < 2 ^ (E + 1)) :
    0 ≤ E ∧ E < 32 := by
  have hne : w.toInt ≠ 0 := fun h => hw (BitVec.eq_of_toInt_eq h)
  have hone : (1 : ℝ) ≤ |(w.toInt : ℝ)| := by exact_mod_cast Int.one_le_abs hne
  have htop : |(w.toInt : ℝ)| < 2 ^ (32 : ℤ) := by
    have hlo := BitVec.le_toInt w
    have hhi := BitVec.toInt_lt (x := w)
    have : |w.toInt| < 2 ^ 32 := by rw [abs_lt]; constructor <;> norm_num at * <;> omega
    exact_mod_cast this
  constructor
  · have : (2 : ℝ) ^ (0 : ℤ) < 2 ^ (E + 1) := by rw [zpow_zero]; linarith
    have := (zpow_lt_zpow_iff_right₀ (by norm_num : (1 : ℝ) < 2)).mp this
    omega
  · exact (zpow_lt_zpow_iff_right₀ (by norm_num : (1 : ℝ) < 2)).mp (lt_of_le_of_lt h0 htop)

/-- A nonzero integer word correctly rounded to double is itself, with no exception. -/
theorem roundsTo_double_word {w : Word} (hw : w ≠ 0) {rnd : BitVec 2} {r : FpResult}
    (h : RoundsTo .double rnd false w.toInt r) : r.exc = excNone ∧ (fpUnpack .double r.bits).IsReal w.toInt := by
  obtain ⟨sign, E, n, hsign, h0, h1, hround, hfits, _⟩ := h
  obtain ⟨hE0, hE1⟩ := binade_of_word hw h0 h1
  have hulp : max E (1 - ((FpFormat.double.bias : ℕ) : ℤ)) - ((FpFormat.double.fractionBits : ℕ) : ℤ) = -((52 - E).toNat : ℤ) := by
    simp only [FpFormat.bias, FpFormat.fractionBits]
    omega
  rw [hulp] at hround hfits
  have hscaled : (w.toInt : ℝ) / 2 ^ (-((52 - E).toNat : ℤ)) = ((w.toInt * 2 ^ (52 - E).toNat : ℤ) : ℝ) := by
    rw [zpow_neg, zpow_natCast, div_inv_eq_mul]
    push_cast
    rfl
  rw [hscaled] at hround
  have hw' : (n : ℝ) * 2 ^ (-((52 - E).toNat : ℤ)) = w.toInt := by
    rw [roundsToInt_intCast hround, ← hscaled, div_mul_cancel₀ _ (zpow_two_pos _).ne']
  rw [hw', if_pos rfl] at hfits
  have hsmall : |(w.toInt : ℝ)| < 2 ^ (FpFormat.double.bias + 1) := by
    refine h1.trans_le ?_
    rw [← zpow_natCast]
    exact zpow_le_zpow_right₀ (by norm_num) (by simp only [FpFormat.bias]; push_cast; omega)
  obtain ⟨⟨m, e, hbits, habs⟩, hexc⟩ := hfits hsmall
  refine ⟨?_, isReal_iff.mpr ⟨sign, m, e, hbits, ?_⟩⟩
  · rw [hexc, if_neg (by simp)]
    rfl
  · rw [← habs]
    cases sign with
    | false =>
      have := hsign.not.mp Bool.false_ne_true
      rw [abs_of_nonneg (not_lt.mp this)]
      simp
    | true =>
      rw [abs_of_neg (hsign.mp rfl)]
      simp

theorem fpFromInt_double_exact (rnd : BitVec 2) (w : Word) :
    (fpFromInt .double rnd w).exc = excNone ∧ (fpUnpack .double (fpFromInt .double rnd w).bits).IsReal w.toInt := by
  by_cases hw : w = 0
  · subst hw
    obtain ⟨hexc, e, hbits⟩ := fpFromInt_zero (fmt := .double) (rnd := rnd)
    exact ⟨hexc, isReal_iff.mpr ⟨false, 0, e, hbits, by simp⟩⟩
  · exact roundsTo_double_word hw (fpFromInt_roundsTo hw)

theorem fpToInt_fpFromInt_double (rnd : BitVec 2) (w : Word) :
    fpToInt .double 0x0D2 (fpFromInt .double rnd w).bits = ⟨w.toNat, excNone⟩ := by
  have hreal := (fpFromInt_double_exact rnd w).2
  have hlo := BitVec.le_toInt w
  have hhi := BitVec.toInt_lt (x := w)
  have h := ((fpToInt_truncates (opf := 0x0D2) hreal (fun _ => (Int.floor_intCast _).symm)
    (fun _ => (Int.ceil_intCast _).symm)).1 hlo hhi).1 rfl
  rwa [BitVec.ofInt_toInt] at h

/-! ### Zeros, infinities and NaNs -/

theorem isZero_fpZero (fmt : FpFormat) (sign : Bool) : FpResult.IsZero ⟨fpZero fmt sign, excNone⟩ fmt sign :=
  ⟨rfl, _, fpUnpack_fpZero fmt sign⟩

theorem isInfinity_fpInfinity (fmt : FpFormat) (sign : Bool) (exc : FpExc) :
    FpResult.IsInfinity ⟨fpInfinity fmt sign, exc⟩ fmt sign exc := ⟨rfl, fpUnpack_fpInfinity fmt sign⟩

theorem isQuietNan_fpInvalid (fmt : FpFormat) (src : NanSource) : (fpInvalid fmt src).IsQuietNan fmt excNV :=
  ⟨rfl, fpUnpack_fpNan fmt src⟩

theorem isQuietNan_fpNanOperand (fmt : FpFormat) (src : NanSource) (signaling : Bool) :
    (fpNanOperand fmt src signaling).IsQuietNan fmt (if signaling then excNV else excNone) := ⟨rfl, fpUnpack_fpNan fmt src⟩

/-- Two operands, at least one a NaN. -/
inductive NanPair : FpValue → FpValue → Prop
  | both (a b : Bool) : NanPair (.nan a) (.nan b)
  | leftInfinity (a sy : Bool) : NanPair (.nan a) (.infinity sy)
  | leftFinite (a sy : Bool) (my : ℕ) (ey : ℤ) : NanPair (.nan a) (.finite sy my ey)
  | rightInfinity (sx b : Bool) : NanPair (.infinity sx) (.nan b)
  | rightFinite (sx : Bool) (mx : ℕ) (ex : ℤ) (b : Bool) : NanPair (.finite sx mx ex) (.nan b)

theorem nanPair_of_isNan {x y : FpValue} (h : x.isNan = true ∨ y.isNan = true) : NanPair x y := by
  cases x with
  | nan a =>
    cases y with
    | nan b => exact .both a b
    | infinity sy => exact .leftInfinity a sy
    | finite sy my ey => exact .leftFinite a sy my ey
  | infinity sx =>
    cases y with
    | nan b => exact .rightInfinity sx b
    | infinity sy => exact absurd h (by simp [FpValue.isNan])
    | finite sy my ey => exact absurd h (by simp [FpValue.isNan])
  | finite sx mx ex =>
    cases y with
    | nan b => exact .rightFinite sx mx ex b
    | infinity sy => exact absurd h (by simp [FpValue.isNan])
    | finite sy my ey => exact absurd h (by simp [FpValue.isNan])

section
variable {fmt dst : FpFormat} {rnd : BitVec 2} {ufm : Bool} {src : NanSource} {flip : Bool}

/-- A NaN operand of a sum, a product or a quotient: a quiet NaN, invalid where an operand is signaling. -/
theorem binary_nan (h : NanPair (fpUnpack fmt src.x) (fpUnpack fmt src.y)) :
    let signaling := (fpUnpack fmt src.x).isSignaling || (fpUnpack fmt src.y).isSignaling
    fpAdd fmt rnd ufm src flip = fpNanOperand fmt src signaling
    ∧ fpMul fmt dst rnd ufm src = fpNanOperand dst src signaling
    ∧ fpDiv fmt rnd ufm src = fpNanOperand fmt src signaling := by
  unfold fpAdd fpMul fpDiv
  generalize fpUnpack fmt src.x = x at h
  generalize fpUnpack fmt src.y = y at h
  cases h <;> simp [FpValue.isSignaling]

theorem binary_nan_quiet (h : (fpUnpack fmt src.x).isNan = true ∨ (fpUnpack fmt src.y).isNan = true) :
    let exc := if (fpUnpack fmt src.x).isSignaling || (fpUnpack fmt src.y).isSignaling then excNV else excNone
    (fpAdd fmt rnd ufm src flip).IsQuietNan fmt exc ∧ (fpMul fmt dst rnd ufm src).IsQuietNan dst exc
    ∧ (fpDiv fmt rnd ufm src).IsQuietNan fmt exc := by
  obtain ⟨hadd, hmul, hdiv⟩ := binary_nan (rnd := rnd) (ufm := ufm) (flip := flip) (dst := dst) (nanPair_of_isNan h)
  dsimp only
  rw [hadd, hmul, hdiv]
  exact ⟨isQuietNan_fpNanOperand .., isQuietNan_fpNanOperand .., isQuietNan_fpNanOperand ..⟩

/-- A NaN operand of a square root or a change of format. -/
theorem unary_nan_quiet (h : (fpUnpack fmt src.y).isNan = true) :
    let exc := if (fpUnpack fmt src.y).isSignaling then excNV else excNone
    (fpSqrt fmt rnd src).IsQuietNan fmt exc ∧ (fpConvert fmt dst rnd ufm src).IsQuietNan dst exc := by
  obtain ⟨b, hy⟩ : ∃ b, fpUnpack fmt src.y = .nan b := by
    cases hy : fpUnpack fmt src.y with
    | nan b => exact ⟨b, rfl⟩
    | infinity sy => rw [hy] at h; cases h
    | finite sy my ey => rw [hy] at h; cases h
  rw [fpSqrt, fpConvert, hy]
  exact ⟨isQuietNan_fpNanOperand .., isQuietNan_fpNanOperand ..⟩

/-- Two finite operands, where a zero decides the result. -/
theorem finite_cases {sx sy : Bool} {mx my : ℕ} {ex ey : ℤ} (hx : fpUnpack fmt src.x = .finite sx mx ex)
    (hy : fpUnpack fmt src.y = .finite sy my ey) :
    (∀ a b : ℝ, (fpUnpack fmt src.x).IsReal a → (fpUnpack fmt src.y).IsReal b → (if flip then a - b else a + b) = 0 →
      (fpAdd fmt rnd ufm src flip).IsZero fmt (if sx = (sy ^^ flip) then sx else rnd == 3))
    ∧ (mx = 0 ∨ my = 0 → (fpMul fmt dst rnd ufm src).IsZero dst (sx ^^ sy))
    ∧ (mx = 0 → my ≠ 0 → (fpDiv fmt rnd ufm src).IsZero fmt (sx ^^ sy))
    ∧ (mx ≠ 0 → my = 0 → (fpDiv fmt rnd ufm src).IsInfinity fmt (sx ^^ sy) excDZ)
    ∧ (mx = 0 → my = 0 → (fpDiv fmt rnd ufm src).IsQuietNan fmt excNV)
    ∧ (my = 0 → (fpSqrt fmt rnd src).IsZero fmt sy ∧ (fpConvert fmt dst rnd ufm src).IsZero dst sy)
    ∧ (my ≠ 0 → sy = true → (fpSqrt fmt rnd src).IsQuietNan fmt excNV) := by
  refine ⟨fun a b ha hb hc => ?_, fun h => ?_, fun hmx hmy => ?_, fun hmx hmy => ?_, fun hmx hmy => ?_, fun hmy => ?_,
    fun hmy hsy => ?_⟩
  · rw [hx] at ha
    rw [hy] at hb
    simp only [FpValue.IsReal] at ha hb
    rw [flipped_eq, ha, hb, ← alignedSum_value] at hc
    have hsum : alignedSum flip sx mx ex sy my ey = 0 := by
      exact_mod_cast (mul_eq_zero.mp hc).resolve_right (zpow_two_pos _).ne'
    rw [fpAdd_finite hx hy, if_pos hsum]
    exact isZero_fpZero ..
  · rw [fpMul_finite hx hy, Nat.mul_eq_zero.mpr h]
    exact fpRound_zero ..
  · rw [fpDiv_finite hx hy hmy rfl, hmx, Nat.zero_shiftLeft, Nat.zero_div, Nat.zero_mod]
    exact fpRound_zero ..
  · rw [fpDiv, hx, hy, hmy]
    dsimp only
    rw [if_pos rfl, if_neg hmx]
    exact isInfinity_fpInfinity ..
  · rw [fpDiv, hx, hy, hmx, hmy]
    exact isQuietNan_fpInvalid ..
  · rw [fpConvert_finite hy, fpSqrt, hy, hmy]
    exact ⟨isZero_fpZero .., fpRound_zero ..⟩
  · rw [fpSqrt, hy, hsy]
    dsimp only
    rw [if_neg hmy, if_pos rfl]
    exact isQuietNan_fpInvalid ..

/-- Two infinite operands. -/
theorem infinite_cases {sx sy : Bool} (hx : fpUnpack fmt src.x = .infinity sx) (hy : fpUnpack fmt src.y = .infinity sy) :
    (if sx = (sy ^^ flip) then (fpAdd fmt rnd ufm src flip).IsInfinity fmt sx excNone
      else (fpAdd fmt rnd ufm src flip).IsQuietNan fmt excNV)
    ∧ (fpMul fmt dst rnd ufm src).IsInfinity dst (sx ^^ sy) excNone ∧ (fpDiv fmt rnd ufm src).IsQuietNan fmt excNV := by
  rw [fpAdd, fpMul, fpDiv, hx, hy]
  refine ⟨?_, isInfinity_fpInfinity .., isQuietNan_fpInvalid ..⟩
  dsimp only
  split
  · exact isInfinity_fpInfinity ..
  · exact isQuietNan_fpInvalid ..

/-- An infinite and a finite operand. -/
theorem infinite_finite_cases {sx sy : Bool} {my : ℕ} {ey : ℤ} (hx : fpUnpack fmt src.x = .infinity sx)
    (hy : fpUnpack fmt src.y = .finite sy my ey) : (fpAdd fmt rnd ufm src flip).IsInfinity fmt sx excNone
    ∧ (if my = 0 then (fpMul fmt dst rnd ufm src).IsQuietNan dst excNV
        else (fpMul fmt dst rnd ufm src).IsInfinity dst (sx ^^ sy) excNone)
    ∧ (fpDiv fmt rnd ufm src).IsInfinity fmt (sx ^^ sy) excNone := by
  rw [fpAdd, fpMul, fpDiv, hx, hy]
  refine ⟨isInfinity_fpInfinity .., ?_, isInfinity_fpInfinity ..⟩
  dsimp only
  split
  · exact isQuietNan_fpInvalid ..
  · exact isInfinity_fpInfinity ..

/-- A finite and an infinite operand. -/
theorem finite_infinite_cases {sx sy : Bool} {mx : ℕ} {ex : ℤ} (hx : fpUnpack fmt src.x = .finite sx mx ex)
    (hy : fpUnpack fmt src.y = .infinity sy) : (fpAdd fmt rnd ufm src flip).IsInfinity fmt (sy ^^ flip) excNone
    ∧ (if mx = 0 then (fpMul fmt dst rnd ufm src).IsQuietNan dst excNV
        else (fpMul fmt dst rnd ufm src).IsInfinity dst (sx ^^ sy) excNone)
    ∧ (fpDiv fmt rnd ufm src).IsZero fmt (sx ^^ sy) := by
  rw [fpAdd, fpMul, fpDiv, hx, hy]
  refine ⟨isInfinity_fpInfinity .., ?_, isZero_fpZero ..⟩
  dsimp only
  split
  · exact isQuietNan_fpInvalid ..
  · exact isInfinity_fpInfinity ..

/-- An infinite operand of a change of format or a square root. -/
theorem unary_infinite_cases {sy : Bool} (hy : fpUnpack fmt src.y = .infinity sy) :
    (fpConvert fmt dst rnd ufm src).IsInfinity dst sy excNone
    ∧ if sy then (fpSqrt fmt rnd src).IsQuietNan fmt excNV else (fpSqrt fmt rnd src).IsInfinity fmt false excNone := by
  rw [fpConvert, fpSqrt, hy]
  refine ⟨isInfinity_fpInfinity .., ?_⟩
  cases sy
  · exact isInfinity_fpInfinity ..
  · exact isQuietNan_fpInvalid ..

end

/-- Settles O56. -/
theorem fpArithmeticIsCorrectlyRounded : Obligations.FpArithmeticIsCorrectlyRounded := by
  unfold Obligations.FpArithmeticIsCorrectlyRounded
  refine ⟨fun sign e g => fpUnpack_fields .single sign e g rfl rfl rfl, fun sign e g => fpUnpack_fields .double sign e g rfl rfl rfl,
    fun sign e g => fpUnpack_fields .quad sign e g rfl rfl rfl, ?_, ?_, ?_, ?_, ?_⟩
  · intro fmt dst rnd ufm src flip a b ha hb
    exact ⟨fpAdd_roundsTo ha hb, fpMul_roundsTo ha hb, fpDiv_roundsTo ha hb, fpSqrt_roundsTo hb, fpConvert_roundsTo hb⟩
  · exact fun fmt rnd w => ⟨fpFromInt_roundsTo, fpFromInt_zero⟩
  · exact fun fmt opf x => ⟨fun a n => fpToInt_truncates, fpToInt_not_real⟩
  · intro fmt dst rnd ufm src flip
    exact ⟨fun sx mx ex sy my ey => finite_cases, fun sx sy => infinite_cases, fun sx sy my ey => infinite_finite_cases,
      fun sx mx ex sy => finite_infinite_cases, fun sy => unary_infinite_cases, binary_nan_quiet, unary_nan_quiet⟩
  · exact fun w rnd => ⟨(fpFromInt_double_exact rnd w).1, fpToInt_fpFromInt_double rnd w⟩

/-! ### The relation of two operands -/

theorem fccOf_compare_eq {a b : ℤ} (h : a = b) : fccOf (compare a b) = 0 := by rw [compare_eq_iff_eq.mpr h]; rfl
theorem fccOf_compare_lt {a b : ℤ} (h : a < b) : fccOf (compare a b) = 1 := by rw [compare_lt_iff_lt.mpr h]; rfl
theorem fccOf_compare_gt {a b : ℤ} (h : b < a) : fccOf (compare a b) = 2 := by rw [compare_gt_iff_gt.mpr h]; rfl

section
variable {fmt : FpFormat} {x y : ℕ}

/-- The relation of two finite operands is that of their values. -/
theorem fpCompare_real {a b : ℝ} (ha : (fpUnpack fmt x).IsReal a) (hb : (fpUnpack fmt y).IsReal b) :
    (a = b → (fpCompare fmt x y).fcc = 0) ∧ (a < b → (fpCompare fmt x y).fcc = 1) ∧ (b < a → (fpCompare fmt x y).fcc = 2) := by
  obtain ⟨sx, mx, ex, hx, rfl⟩ := isReal_iff.mp ha
  obtain ⟨sy, my, ey, hy, rfl⟩ := isReal_iff.mp hb
  have hp := zpow_two_pos (min ex ey)
  rw [← signed_shift_value sx mx (min_le_left ex ey), ← signed_shift_value sy my (min_le_right ex ey), mul_left_inj' hp.ne',
    mul_lt_mul_iff_left₀ hp, mul_lt_mul_iff_left₀ hp, Int.cast_inj, Int.cast_lt, Int.cast_lt, fpCompare, hx, hy]
  exact ⟨fccOf_compare_eq, fccOf_compare_lt, fccOf_compare_gt⟩

theorem fpCompare_nan (h : NanPair (fpUnpack fmt x) (fpUnpack fmt y)) : (fpCompare fmt x y).fcc = 3 := by
  unfold fpCompare
  generalize fpUnpack fmt x = u at h
  generalize fpUnpack fmt y = v at h
  cases h <;> rfl

/-- Which NaNs a comparison reports. -/
theorem fpCompare_flags : let u := fpUnpack fmt x; let v := fpUnpack fmt y
    (fpCompare fmt x y).snan = (u.isSignaling || v.isSignaling)
    ∧ (fpCompare fmt x y).qnan = (u.isNan && !u.isSignaling || v.isNan && !v.isSignaling) := by
  unfold fpCompare
  generalize fpUnpack fmt x = u
  generalize fpUnpack fmt y = v
  cases u with
  | nan a => cases v <;> simp [FpValue.isNan, FpValue.isSignaling]
  | infinity su => cases v <;> simp [FpValue.isNan, FpValue.isSignaling]
  | finite su mu eu => cases v <;> simp [FpValue.isNan, FpValue.isSignaling]

end

/-- Settles O53. -/
theorem fpCompareResults : Obligations.FpCompareResults := by
  unfold Obligations.FpCompareResults
  refine ⟨fun s rs1 rs2 hef => ?_, fun fmt x y => ?_⟩
  · have h (opf : BitVec 9) (fmt : FpFormat) (signal : Bool) :=
      FloatingPoint.compare_spec hef (opf := opf) fmt rs1 rs2 signal
    refine List.forall_mem_cons.mpr ⟨h 0x051 .single false, List.forall_mem_cons.mpr ⟨h 0x052 .double false, ?_⟩⟩
    refine List.forall_mem_cons.mpr ⟨h 0x053 .quad false, List.forall_mem_cons.mpr ⟨h 0x055 .single true, ?_⟩⟩
    exact List.forall_mem_cons.mpr ⟨h 0x056 .double true, List.forall_mem_cons.mpr ⟨h 0x057 .quad true, List.forall_mem_nil _⟩⟩
  · refine ⟨fun h => fpCompare_nan (nanPair_of_isNan h), fpCompare_flags.1, fpCompare_flags.2, fun a b => fpCompare_real,
      fun sign b hx hb => ?_, fun a sign ha hy => ?_, fun su sv hx hy => ?_⟩
    · obtain ⟨_, _, _, hy, _⟩ := isReal_iff.mp hb
      rw [fpCompare, hx, hy]
    · obtain ⟨_, _, _, hx, _⟩ := isReal_iff.mp ha
      rw [fpCompare, hx, hy]
    · rw [fpCompare, hx, hy]

end Sys2Proof.Proofs.Numerics

end

section
/-! The state after reset. -/

set_option Elab.async false

namespace Sys2Proof.Proofs.Reset
open Sys2Proof.Machine

/-- Settles O1: with no window open the words read are of the stored fields, all constants. -/
theorem resetGivesTheSpecifiedValues : Obligations.ResetGivesTheSpecifiedValues := by
  unfold Obligations.ResetGivesTheSpecifiedValues
  refine ⟨rfl, rfl, rfl, rfl, rfl, by decide, by decide, rfl, rfl, rfl, rfl, ?_, ?_, by decide, by decide⟩
  · rw [StateRegisters.psrWord_settled rfl]
    decide
  · rw [StateRegisters.psrWord_settled rfl]
    decide

end Sys2Proof.Proofs.Reset

end
